-- ==== Sys2Proof/Word.lean ====
section
/-! DEFINITION. The two word types of the display core (spec rules R7, R8, R55). -/

namespace Sys2Proof

/-- A register word, 32 bits (R24, R59). -/
abbrev Word := BitVec 32

/-- A byte, an 8-bit unsigned value (R8). -/
abbrev Byte := BitVec 8

end Sys2Proof
end

