-- ==== Sys2Proof/Config.lean ====
section
/-! DEFINITION. What is fixed for one machine (the parameters of R6 and R38) and what the spec leaves free at every step
(the interleaving of R64, the slave's answer of R113, the choice of R114). -/

namespace Sys2Proof

/-- The parameters R6 marks OPEN: arguments of the model, constant during a run (R38, R68). -/
structure Params where
  /-- `I2C_BASE` (R6, R62). -/
  i2cBase : Word
  /-- `TX_FIFO_DEPTH` (R6, R31). -/
  txFifoDepth : Nat
  /-- `INIT_TABLE` (R6, R164). -/
  initTable : List Byte
  /-- `FB_BURST` (R6, R167). -/
  fbBurst : Bool
  deriving DecidableEq, Repr

/-- Who is offered the next step: the single thread of CALLER and SEQ (R3), or CTRL. -/
inductive Agent where
  | thread
  | ctrl
  deriving DecidableEq, Repr, Inhabited

/-- The slave oracle's answer to one `Draw()` (R113). -/
inductive Answer where
  | ack
  | nack
  | stall
  deriving DecidableEq, Repr, Inhabited

/-- The two outcomes NackOutcome() may choose (R114); both are admitted (`NACK_OUTCOMES`, R6). -/
inductive NackChoice where
  | abort
  | hold
  deriving DecidableEq, Repr, Inhabited

/-- Everything the spec leaves free in one step: the agent that steps (R64), the slave's answer if that step
draws (R113), the outcome if the answer is NACK (R114). -/
structure Choice where
  agent : Agent
  answer : Answer
  nack : NackChoice
  deriving DecidableEq, Repr, Inhabited

/-- The free choice of step number `n`, with no body: nothing can be proved about its value (log 1). -/
opaque Config.freeChoice : Nat → Choice

end Sys2Proof
end

