-- ==== Sys2Proof/Machine/Tables.lean ====
section
/-! DEFINITION. The fixed numbers and tables of R6, R38, R165 and R166, and what R164 asks of INIT_TABLE. -/

namespace Sys2Proof.Machine

/-- `TARGET_ADDR` (R6). -/
def targetAddr : BitVec 7 := 0x3C#7

/-- `SPEED` (R6, R38): fast mode, the IC_CON.SPEED code 2. -/
def speed : BitVec 2 := 2#2

/-- `CB_CMD`, the control byte of a command transfer (R6, R77, R160). -/
def cbCmd : Byte := 0x80#8

/-- `CB_DATA`, the control byte of a data transfer (R6, R77, R160). -/
def cbData : Byte := 0x40#8

/-- `FB_SIZE` (R6). -/
def fbSize : Nat := 1024

/-- `ADDR_TABLE` (R166): column range 0 to 127, page range 0 to 7. -/
def addrTable : List Byte := [0x21#8, 0x00#8, 0x7F#8, 0x22#8, 0x00#8, 0x07#8]

/-- `INIT_TABLE_REF` (R165), 17 bytes. -/
def initTableRef : List Byte :=
  [0xAE#8, 0xD5#8, 0x80#8, 0xA8#8, 0x3F#8, 0xD3#8, 0x00#8, 0x8D#8, 0x14#8, 0xA1#8, 0xDA#8, 0x12#8, 0x81#8, 0x7F#8,
   0x20#8, 0x00#8, 0xAF#8]

/-- The two legal register window bases (R6, R62). -/
def legalBases : List Word := [0x40044000#32, 0x40048000#32]

/-- How many argument bytes an SSD1306 command byte takes, and none for a byte that R215's table does not list. -/
def commandArgs (c : Byte) : Option Nat :=
  if c = 0x20#8 then some 1
  else if c = 0x21#8 ∨ c = 0x22#8 then some 2
  else if c ∈ [0x81#8, 0xA8#8, 0xD3#8, 0xD5#8, 0x8D#8, 0xDA#8, 0xD9#8, 0xDB#8] then some 1
  else if c ∈ [0xAE#8, 0xAF#8, 0xA0#8, 0xA1#8, 0xC0#8, 0xC8#8, 0xA4#8, 0xA5#8, 0xA6#8, 0xA7#8] then some 0
  else if 0x40 ≤ c.toNat ∧ c.toNat ≤ 0x7F then some 0
  else none

/-- The command bytes of a command list, each followed directly by its arguments (R164(c), R251): none when a byte in
command position is not a listed command or a last command lacks arguments. `skip` counts arguments still due. -/
def commandHeads (skip : Nat) : List Byte → Option (List Byte)
  | [] => if skip = 0 then some [] else none
  | b :: rest =>
    match skip with
    | k + 1 => commandHeads k rest
    | 0 =>
      match commandArgs b with
      | none => none
      | some k => (commandHeads k rest).map (b :: ·)

/-- The ten categories of R164(b) in order, each as the command bytes that serve it (R165, R215). -/
def bringUpCategories : List (List Byte) :=
  [[0xAE#8], [0xD5#8], [0xA8#8], [0xD3#8], [0x8D#8], [0xA0#8, 0xA1#8], [0xDA#8], [0x81#8], [0x20#8], [0xAF#8]]

/-- Whether a list of command bytes has a member of every category, in the given order. -/
def hasCategories : List Byte → List (List Byte) → Bool
  | _, [] => true
  | [], _ :: _ => false
  | c :: cs, k :: ks => if c ∈ k then hasCategories cs ks else hasCategories cs (k :: ks)

/-- R164's conditions (b), (c) and (d) on an INIT_TABLE (log 23). -/
def initTableOk (t : List Byte) : Bool :=
  match commandHeads 0 t with
  | none => false
  | some heads => hasCategories heads bringUpCategories

/-- The parameter values R6 admits. -/
def paramsOk (p : Params) : Bool :=
  legalBases.contains p.i2cBase && decide (1 ≤ p.txFifoDepth) && initTableOk p.initTable

/-- The default of every parameter (R6): the values the spec's test vectors use. -/
def defaultParams : Params :=
  { i2cBase := 0x40044000#32, txFifoDepth := 16, initTable := initTableRef, fbBurst := false }

end Sys2Proof.Machine
end

