-- ==== Sys2Proof/Syntax.lean ====
section
/-! DEFINITION. The instructions: one constructor per row of spec/opcode_table.json (R78, R79). -/

namespace Sys2Proof

/-- The eight register accesses SEQ issues (format RA, R70, R78) and the six operation requests CALLER issues
(format OP, R71, R79). -/
inductive Instr where
  /-- LDR IC_CON (R100). -/
  | ldrIcCon
  /-- STR IC_CON, v (R101). -/
  | strIcCon (v : Word)
  /-- LDR IC_TAR (R102). -/
  | ldrIcTar
  /-- STR IC_TAR, v (R103). -/
  | strIcTar (v : Word)
  /-- STR IC_DATA_CMD, v (R104). -/
  | strIcDataCmd (v : Word)
  /-- LDR IC_ENABLE (R105). -/
  | ldrIcEnable
  /-- STR IC_ENABLE, v (R106). -/
  | strIcEnable (v : Word)
  /-- LDR IC_STATUS (R107). -/
  | ldrIcStatus
  /-- INITIALIZE speed, addr (R140): SPD is 2 bits, A7 is 7 bits (R71). -/
  | initializeOp (spd : BitVec 2) (a7 : BitVec 7)
  /-- WRITE_BUFFER S (R141): `S` is the operand snapshot (R52). -/
  | writeBuffer (bytes : List Byte)
  /-- SEND_COMMAND b (R161). -/
  | sendCommand (b : Byte)
  /-- SEND_COMMAND_LIST L (R162). -/
  | sendCommandList (bytes : List Byte)
  /-- SEND_FRAMEBUFFER F (R167). -/
  | sendFramebuffer (bytes : List Byte)
  /-- INIT_SEQUENCE (R163). -/
  | initSequence
  deriving DecidableEq, Repr

/-- Whether an instruction is a register access (format RA) or an operation request (format OP). -/
def Instr.isAccess : Instr → Bool
  | .ldrIcCon | .strIcCon _ | .ldrIcTar | .strIcTar _ | .strIcDataCmd _ | .ldrIcEnable | .strIcEnable _
  | .ldrIcStatus => true
  | .initializeOp _ _ | .writeBuffer _ | .sendCommand _ | .sendCommandList _ | .sendFramebuffer _
  | .initSequence => false

end Sys2Proof
end

