-- ==== Sys2Proof/Decode.lean ====
section
/-! DEFINITION. The two encoded formats (R70, R71), the decoder (total, rejecting by the names of R80 and R81), the
encoder, the pseudo-instructions of R87, and the opcode table's own numbering of words. -/

namespace Sys2Proof

/-- A request as it is encoded: format RA, a 9-bit selector and a data word (R70), or format OP, a 16-bit word and a
byte-sequence operand (R71). A read has no use for `wdata`, and OPC 0, 2 and 5 have none for `seqarg` (R83, log 20). -/
inductive Encoded where
  | ra (sel : BitVec 9) (wdata : Word)
  | op (word : BitVec 16) (seqarg : List Byte)
  deriving DecidableEq, Repr

/-- The encoding-level refusals, by the names of R202. -/
inductive DecodeReject where
  /-- Q_UNMODELLED: a selector that is not in the opcode map (R80). -/
  | unmodelled
  /-- Q_READBACK: LDR IC_DATA_CMD (R80). -/
  | readback
  /-- Q_RESERVED_OP: OPC 6 or 7, or a nonzero MBZ bit (R81). -/
  | reservedOp
  deriving DecidableEq, Repr

/-- Bit 8 of a selector: 1 is a write (R70). -/
def selWrites (sel : BitVec 9) : Bool := sel.getLsbD 8

/-- Bits 7:0 of a selector: the register offset (R70). -/
def selOffset (sel : BitVec 9) : BitVec 8 := sel.extractLsb' 0 8

/-- OPC, bits 2:0 of an OP word (R71). -/
def opOpc (w : BitVec 16) : BitVec 3 := w.extractLsb' 0 3

/-- SPD, bits 4:3 of an OP word (R71). -/
def opSpd (w : BitVec 16) : BitVec 2 := w.extractLsb' 3 2

/-- A7, bits 11:5 of an OP word (R71). -/
def opA7 (w : BitVec 16) : BitVec 7 := w.extractLsb' 5 7

/-- B8, bits 10:3 of an OP word (R71). -/
def opB8 (w : BitVec 16) : Byte := w.extractLsb' 3 8

/-- Format RA, the opcode map of R78 and the reserved selectors of R80. -/
def decodeRa (sel : BitVec 9) (wdata : Word) : Except DecodeReject Instr :=
  if sel = 0x000#9 then .ok .ldrIcCon
  else if sel = 0x100#9 then .ok (.strIcCon wdata)
  else if sel = 0x004#9 then .ok .ldrIcTar
  else if sel = 0x104#9 then .ok (.strIcTar wdata)
  else if sel = 0x110#9 then .ok (.strIcDataCmd wdata)
  else if sel = 0x06C#9 then .ok .ldrIcEnable
  else if sel = 0x16C#9 then .ok (.strIcEnable wdata)
  else if sel = 0x070#9 then .ok .ldrIcStatus
  else if sel = 0x010#9 then .error .readback
  else .error .unmodelled

/-- Format OP, the opcode map of R79 and the reserved words of R81. -/
def decodeOp (w : BitVec 16) (seqarg : List Byte) : Except DecodeReject Instr :=
  if opOpc w = 0#3 then
    if w.extractLsb' 12 4 = 0#4 then .ok (.initializeOp (opSpd w) (opA7 w)) else .error .reservedOp
  else if opOpc w = 1#3 then
    if w.extractLsb' 3 13 = 0#13 then .ok (.writeBuffer seqarg) else .error .reservedOp
  else if opOpc w = 2#3 then
    if w.extractLsb' 11 5 = 0#5 then .ok (.sendCommand (opB8 w)) else .error .reservedOp
  else if opOpc w = 3#3 then
    if w.extractLsb' 3 13 = 0#13 then .ok (.sendCommandList seqarg) else .error .reservedOp
  else if opOpc w = 4#3 then
    if w.extractLsb' 3 13 = 0#13 then .ok (.sendFramebuffer seqarg) else .error .reservedOp
  else if opOpc w = 5#3 then
    if w.extractLsb' 3 13 = 0#13 then .ok .initSequence else .error .reservedOp
  else .error .reservedOp

/-- The decoder: total on every encoded request. -/
def decode : Encoded → Except DecodeReject Instr
  | .ra sel wdata => decodeRa sel wdata
  | .op w seqarg => decodeOp w seqarg

/-- The OP word of INITIALIZE, `(SPD << 3) | (A7 << 5)` with OPC 0 (R140). -/
def initializeWord (spd : BitVec 2) (a7 : BitVec 7) : BitVec 16 :=
  (spd.setWidth 16 <<< 3) ||| (a7.setWidth 16 <<< 5)

/-- The OP word of SEND_COMMAND, `0x0002 | (b << 3)` (R161). -/
def sendCommandWord (b : Byte) : BitVec 16 :=
  0x0002#16 ||| (b.setWidth 16 <<< 3)

/-- The encoder, from the same tables (R78, R79). -/
def encode : Instr → Encoded
  | .ldrIcCon => .ra 0x000#9 0
  | .strIcCon v => .ra 0x100#9 v
  | .ldrIcTar => .ra 0x004#9 0
  | .strIcTar v => .ra 0x104#9 v
  | .strIcDataCmd v => .ra 0x110#9 v
  | .ldrIcEnable => .ra 0x06C#9 0
  | .strIcEnable v => .ra 0x16C#9 v
  | .ldrIcStatus => .ra 0x070#9 0
  | .initializeOp spd a7 => .op (initializeWord spd a7) []
  | .writeBuffer s => .op 0x0001#16 s
  | .sendCommand b => .op (sendCommandWord b) []
  | .sendCommandList l => .op 0x0003#16 l
  | .sendFramebuffer f => .op 0x0004#16 f
  | .initSequence => .op 0x0005#16 []

/-- An encoded request whose unused operand slot is empty: `wdata` 0 for a read, no `seqarg` for OPC 0, 2 and 5 (R83). -/
def Encoded.canonical : Encoded → Bool
  | .ra sel wdata => selWrites sel || wdata == 0
  | .op w seqarg => opOpc w == 1#3 || opOpc w == 3#3 || opOpc w == 4#3 || seqarg == []

/-- One row of an opcode map: a word is the row's when its bits under `mask` are `pattern` (R78, R79). -/
structure OpcodeRow where
  pattern : Nat
  mask : Nat
  deriving DecidableEq, Repr

/-- Whether a word has a row's fixed bits. -/
def OpcodeRow.fits (r : OpcodeRow) (w : Nat) : Bool := (w &&& r.mask) == r.pattern

/-- The RA opcode map of R78, row by row. -/
def raRows : List OpcodeRow :=
  [⟨0x000, 0x1FF⟩, ⟨0x100, 0x1FF⟩, ⟨0x004, 0x1FF⟩, ⟨0x104, 0x1FF⟩,
   ⟨0x110, 0x1FF⟩, ⟨0x06C, 0x1FF⟩, ⟨0x16C, 0x1FF⟩, ⟨0x070, 0x1FF⟩]

/-- The OP opcode map of R79, row by row. -/
def opRows : List OpcodeRow :=
  [⟨0x0000, 0xF007⟩, ⟨0x0001, 0xFFFF⟩, ⟨0x0002, 0xF807⟩, ⟨0x0003, 0xFFFF⟩, ⟨0x0004, 0xFFFF⟩, ⟨0x0005, 0xFFFF⟩]

/-- The selector of an access to a full system address: 32 bits wide, inside the window
`I2C_BASE + 0x00 .. 0xFF` (R24, R51). Another width or an address outside the window, the aliases of R62
included, has no selector (R30, R58). -/
def selOfAddress (i2cBase addr : Word) (bytes : Nat) (write : Bool) : Option (BitVec 9) :=
  if bytes = 4 ∧ (addr - i2cBase).toNat < 0x100 then
    some (BitVec.ofBool write ++ (addr - i2cBase).extractLsb' 0 8)
  else none

/-- Decoding an access to a full system address: no selector is Q_UNMODELLED (R30). -/
def decodeAddress (i2cBase addr : Word) (bytes : Nat) (write : Bool) (wdata : Word) : Except DecodeReject Instr :=
  match selOfAddress i2cBase addr bytes write with
  | some sel => decodeRa sel wdata
  | none => .error .unmodelled

/-- `INITIALIZE <addr>` is `INITIALIZE 2, <addr>` (R87): the constant SPEED (R6, R38). -/
def initializePseudo (addr : BitVec 7) : Instr := .initializeOp Machine.speed addr

/-- `PUSH b` is `STR IC_DATA_CMD, zext_32(b)` (R87). -/
def pushPseudo (b : Byte) : Instr := .strIcDataCmd (b.setWidth 32)

/-- `PUSH_STOP b` is `STR IC_DATA_CMD, zext_32(b) | 0x200` (R87). -/
def pushStopPseudo (b : Byte) : Instr := .strIcDataCmd (b.setWidth 32 ||| 0x200#32)

/-- The bytes of `n` bytes of a number, least significant first: an OP row's operand bytes when a table word carries
some (log 8). -/
def tableOperand : Nat → Nat → List Byte
  | 0, _ => []
  | n + 1, w => BitVec.ofNat 8 w :: tableOperand n (w / 256)

/-- A word numbered as the opcode table numbers it, as an encoded request: the selector or OP word in bits 15:0, then
WDATA or SEQARG. The table does not say which of the two formats a word has, so a word whose low 16 bits are one of
R78's selectors is read as format RA, any other as format OP (log 8). -/
def encodedOfTableWord (nbits w : Nat) : Encoded :=
  let v := w % 2 ^ nbits
  let low := v % 0x10000
  if raRows.any (fun r => r.pattern == low) then .ra (BitVec.ofNat 9 low) (BitVec.ofNat 32 (v / 0x10000))
  else .op (BitVec.ofNat 16 low) (tableOperand ((nbits - 16) / 8) (v / 0x10000))

/-- The instruction the decoder reads from a table word. -/
def decodeTableWord (nbits w : Nat) : Option Instr :=
  match decode (encodedOfTableWord nbits w) with
  | .ok i => some i
  | .error _ => none

end Sys2Proof
end

