-- ==== Sys2Proof/Machine/Program.lean ====
section
/-! DEFINITION. Caller programs (R86, R88): what CALLER holds (R37). A request stands in a program as it is encoded, so
that a reserved encoding can stand there too. -/

namespace Sys2Proof.Machine

/-- One element of a raw program: a register access (R84), the same access to a full system address and of any width
(R30, R58, R62), or a pseudo-instruction of R87. -/
inductive Access where
  | ra (sel : BitVec 9) (wdata : Word)
  | bus (addr : Word) (bytes : Nat) (write : Bool) (wdata : Word)
  | push (b : Byte)
  | pushStop (b : Byte)
  | pollTfnf
  | pollIdle
  deriving DecidableEq, Repr

/-- A caller program (R86): the first statement and the rest of the program. -/
inductive Program where
  | done
  | request (word : BitVec 16) (seqarg : List Byte) (rest : Program)
  | repeatN (n : Nat) (body rest : Program)
  | forever (body rest : Program)
  | raw (accesses : List Access) (rest : Program)
  deriving DecidableEq, Repr

/-- One program after another. -/
def Program.andThen : Program → Program → Program
  | .done, q => q
  | .request w a rest, q => .request w a (rest.andThen q)
  | .repeatN n body rest, q => .repeatN n body (rest.andThen q)
  | .forever body rest, q => .forever body (rest.andThen q)
  | .raw as rest, q => .raw as (rest.andThen q)

/-- An operation request, or a register access as a raw program of one access, in front of a program. -/
def Program.ofInstr (i : Instr) (rest : Program) : Program :=
  match encode i with
  | .ra sel wdata => .raw [.ra sel wdata] rest
  | .op w seqarg => .request w seqarg rest

/-- The instruction an element of a raw program issues: a poll issues LDR IC_STATUS (R87). -/
def decodeAccess (i2cBase : Word) : Access → Except DecodeReject Instr
  | .ra sel wdata => decodeRa sel wdata
  | .bus addr bytes write wdata => decodeAddress i2cBase addr bytes write wdata
  | .push b => .ok (pushPseudo b)
  | .pushStop b => .ok (pushStopPseudo b)
  | .pollTfnf => .ok .ldrIcStatus
  | .pollIdle => .ok .ldrIcStatus

end Sys2Proof.Machine
end

