-- ==== Sys2Proof/Machine/State.lean ====
section
/-! DEFINITION. The state of the display core (R40), the model faults (R201) and refusals (R202), and the launch state
(R40, R240). -/

namespace Sys2Proof.Machine

/-- SEQ's phase (R21). -/
inductive Phase where
  | uninit
  | ready
  deriving DecidableEq, Repr

/-- CTRL's transaction state (R33). -/
inductive Bus where
  | idle
  | active
  deriving DecidableEq, Repr

/-- An acknowledge bit as the trace records it (R35). -/
inductive Ack where
  | ack
  | nack
  deriving DecidableEq, Repr

/-- The bus event alphabet of R35; `rw = false` is a write. -/
inductive BusEvent where
  | start
  | restart
  | stop
  | addr (a : BitVec 7) (rw : Bool) (answer : Ack)
  | data (b : Byte) (answer : Ack)
  deriving DecidableEq, Repr

/-- A transmit FIFO entry (R32). -/
structure Entry where
  dat : Byte
  stop : Bool
  restart : Bool
  deriving DecidableEq, Repr

/-- A point of an operation's pseudocode (R22): the configuration writes of INITIALIZE, or, in transfer number `j`, the
polls and the push of byte number `i`. Indices are unbounded naturals (R22, log 16). -/
inductive Point where
  | cfg (n : Nat)
  | pollTfnf (j i : Nat)
  | push (j i : Nat)
  | pollIdle (j : Nat)
  deriving DecidableEq, Repr

/-- SEQ's position (R22): IDLE, AT(op, k) with the operation's operand snapshot, or, in a raw program (R88), the accesses
still to run, the current one first. -/
inductive Pos where
  | idle
  | at (op : Instr) (k : Point)
  | raw (accesses : List Access)
  deriving DecidableEq, Repr

/-- The model faults of R201. Each stops the run where the source calls the behaviour undefined or excluded, or says
nothing of it. Stopping is safe: no claim about what the chip does from there can be proved. -/
inductive Fault where
  /-- Code 1, raised by INITIALIZE in phase READY (R140). Safe. -/
  | fReinit
  /-- Code 2, raised by a transfer in phase UNINIT (R141, and through it R161, R162, R163, R167). Safe. -/
  | fNotInitialized
  /-- Code 3, raised by STR IC_CON and STR IC_TAR while enabled (R101, R103). Safe. -/
  | fCfgWhileEnabled
  /-- Code 4, raised by STR IC_DATA_CMD while disabled (R104). Safe. -/
  | fPushDisabled
  /-- Code 5, raised by STR IC_DATA_CMD with the FIFO full (R104). Safe. -/
  | fPushFull
  /-- Code 6, raised by STR IC_ENABLE clearing ENABLE while busy (R106). Safe. -/
  | fDisableActive
  deriving DecidableEq, Repr

/-- The refusals of R202: requests the spec gives no meaning. Refusing is safe. -/
inductive Refusal where
  /-- An instruction with no meaning in this model; no arm of exec answers it. Safe. -/
  | notModelled (mnemonic : String)
  /-- Code 1, an access that is not in the opcode map (R30, R80), raised by the decoder. Safe. -/
  | qUnmodelled
  /-- Code 2, LDR IC_DATA_CMD (the decoder) or STR IC_DATA_CMD with CMD = 1 (R104). Safe. -/
  | qReadback
  /-- Code 3, STR IC_DATA_CMD with bits 31:11 not zero (R104). Safe. -/
  | qReserved
  /-- Code 4, STR IC_DATA_CMD with RESTART = 1 while IC_RESTART_EN = 0 (R104). Safe. -/
  | qRestartDisabled
  /-- Code 5, STR IC_CON outside the admitted set (R101). Safe. -/
  | qConField
  /-- Code 6, STR IC_TAR outside the admitted set (R103). Safe. -/
  | qTarField
  /-- Code 7, STR IC_ENABLE with bits 31:1 not zero (R106). Safe. -/
  | qEnableField
  /-- Code 8, INITIALIZE with SPD 0 or 3 (R140). Safe. -/
  | qSpeed
  /-- Code 9, SEND_FRAMEBUFFER with a length other than 1024 (R167). Safe. -/
  | qFbLength
  /-- Code 10, an OP word with OPC 6 or 7 or a nonzero MBZ bit (R81), raised by the decoder. Safe. -/
  | qReservedOp
  deriving DecidableEq, Repr

/-- The whole state: R40's record, the parameters (R38), CALLER's program (R37), and the model's own `rdata` (log 3),
`script` and `tick` (log 1). -/
structure State where
  /-- The constant parameters; no step writes them (R38, log 4). -/
  params : Params
  /-- SEQ's phase (R21). -/
  phase : Phase
  /-- Whether INIT_SEQUENCE has completed (R21). -/
  initDone : Bool
  /-- SEQ's position (R22). -/
  pos : Pos
  /-- IC_CON (R25). -/
  icCon : Word
  /-- IC_TAR (R26). -/
  icTar : Word
  /-- IC_ENABLE (R28). -/
  icEnable : Word
  /-- The transmit FIFO, oldest entry first (R31). -/
  fifo : List Entry
  /-- CTRL's transaction state (R33). -/
  bus : Bus
  /-- A NACK was answered with ABORT (R34). -/
  txAbort : Bool
  /-- A NACK was answered with HOLD (R34). -/
  held : Bool
  /-- The bus trace, oldest event first (R35). -/
  trace : List BusEvent
  /-- The fault mark (R39). -/
  fault : Option Fault
  /-- The refusal mark (R39). -/
  refused : Option Refusal
  /-- CALLER's remaining program (R37). -/
  program : Program
  /-- The value the last register read returned to SEQ (R70). -/
  rdata : Word
  /-- The free choices still to come from outside, the next one first. -/
  script : List Choice
  /-- The argument of the opaque free choice once `script` is empty. -/
  tick : Nat
  deriving DecidableEq, Repr

/-- The launch state (R40, R240). -/
def State.reset : State where
  params := defaultParams
  phase := .uninit
  initDone := false
  pos := .idle
  icCon := 0x00000065#32
  icTar := 0x00000055#32
  icEnable := 0x00000000#32
  fifo := []
  bus := .idle
  txAbort := false
  held := false
  trace := []
  fault := none
  refused := none
  program := .done
  rdata := 0
  script := []
  tick := 0

end Sys2Proof.Machine
end

