-- ==== Sys2Proof/Machine/Ops.lean ====
section
/-! DEFINITION. The named operations over the state: register stores, the FIFO primitives Push and Pop, Emit (R9), SEQ's
position, the two run marks (R39, R205), the free choice of a step, and byte memory (the panel's display RAM, R213). -/

namespace Sys2Proof.Machine

/-- The outcome type of one step of this machine. -/
abbrev Result := Host.Outcome State Fault Refusal

/-- A register read returns its value to SEQ (R70). -/
def State.setRdata (s : State) (v : Word) : State := { s with rdata := v }

/-- `reg.IC_CON <- v` (R9). -/
def State.setIcCon (s : State) (v : Word) : State := { s with icCon := v }

/-- `reg.IC_TAR <- v` (R9). -/
def State.setIcTar (s : State) (v : Word) : State := { s with icTar := v }

/-- `reg.IC_ENABLE <- v` (R9). -/
def State.setIcEnable (s : State) (v : Word) : State := { s with icEnable := v }

/-- The FIFO replaced as a whole. -/
def State.setFifo (s : State) (q : List Entry) : State := { s with fifo := q }

/-- `Push(e)` (R31): at the end. -/
def State.pushEntry (s : State) (e : Entry) : State := { s with fifo := s.fifo ++ [e] }

/-- `Pop()` (R31): the head removed. -/
def State.popEntry (s : State) : State := { s with fifo := s.fifo.tail }

/-- `bus <- b` (R33). -/
def State.setBus (s : State) (b : Bus) : State := { s with bus := b }

/-- `tx_abort <- b` (R34). -/
def State.setTxAbort (s : State) (b : Bool) : State := { s with txAbort := b }

/-- `held <- b` (R34). -/
def State.setHeld (s : State) (b : Bool) : State := { s with held := b }

/-- `Emit` for some events in order (R9, R35). -/
def State.emit (s : State) (evs : List BusEvent) : State := { s with trace := s.trace ++ evs }

/-- `pos <- p` (R9, R22). -/
def State.setPos (s : State) (p : Pos) : State := { s with pos := p }

/-- `phase <- p` (R21). -/
def State.setPhase (s : State) (p : Phase) : State := { s with phase := p }

/-- `init_done <- b` (R21). -/
def State.setInitDone (s : State) (b : Bool) : State := { s with initDone := b }

/-- CALLER's remaining program (R37). -/
def State.setProgram (s : State) (p : Program) : State := { s with program := p }

/-- `raise Fault(F)`: the code is recorded, and nothing else changes (R201, R205). -/
def State.recordFault (s : State) (f : Fault) : State := { s with fault := some f }

/-- `refuse(Q)`: the reason is recorded, and nothing else changes (R202). -/
def State.recordRefusal (s : State) (q : Refusal) : State := { s with refused := some q }

/-- The mark of a step that raised or refused goes on the state that step started from: the step has no other effect
(R205, log 5). -/
def recordMark (before : State) : Result → Result
  | .next t => .next t
  | .fault f => .next (before.recordFault f)
  | .refused q => .next (before.recordRefusal q)

/-- What follows an access, when the access neither raised nor refused. -/
def thenDo (r : Result) (f : State → State) : Result :=
  match r with
  | .next t => .next (f t)
  | .fault e => .fault e
  | .refused q => .refused q

/-- The free choice of the next step: the head of `script`, or the opaque choice of `tick` (log 1). -/
def State.choice (s : State) : Choice :=
  match s.script with
  | c :: _ => c
  | [] => Config.freeChoice s.tick

/-- The state once the next step's free choice has been taken (log 1). -/
def State.draw (s : State) : State :=
  match s.script with
  | _ :: rest => { s with script := rest }
  | [] => { s with tick := s.tick + 1 }

/-- Byte memory: cells in rising address order; an unlisted address holds no known byte (R211's ⊥). -/
abbrev Memory := List Host.Cell

/-- The canonical form: addresses strictly rising. -/
def memoryOk : Memory → Bool
  | [] => true
  | [_] => true
  | c :: d :: rest => decide (c.1 < d.1) && memoryOk (d :: rest)

/-- Reading one byte; none is ⊥. -/
def readByte (m : Memory) (a : Nat) : Option Byte :=
  match m with
  | [] => none
  | c :: rest => if c.1 = a then some c.2 else readByte rest a

/-- Writing one byte, keeping the canonical form. -/
def writeByte (m : Memory) (a : Nat) (b : Byte) : Memory :=
  match m with
  | [] => [(a, b)]
  | c :: rest =>
    if a < c.1 then (a, b) :: c :: rest
    else if a = c.1 then (a, b) :: rest
    else c :: writeByte rest a b

end Sys2Proof.Machine
end

