-- ==== Sys2Proof/Machine/Operands.lean ====
section
/-! DEFINITION. Operand assembly (R72 to R76), the fields of a written word (R25 to R28), and the value-level admission
tests of R101, R103, R104 and R106. -/

namespace Sys2Proof.Machine

/-- `DATA_CMD(b, stop, restart)` (R72). -/
def dataCmdWord (b : Byte) (stop restart : Bool) : Word :=
  b.setWidth 32 ||| ((BitVec.ofBool stop).setWidth 32 <<< 9) ||| ((BitVec.ofBool restart).setWidth 32 <<< 10)

/-- `CON(s)` (R73). -/
def conWord (spd : BitVec 2) : Word :=
  0x1#32 ||| (spd.setWidth 32 <<< 1) ||| (1#32 <<< 5) ||| (1#32 <<< 6)

/-- The IC_TAR word of a 7-bit address (R74). -/
def tarWord (a : BitVec 7) : Word := a.setWidth 32

/-- The IC_ENABLE word (R75). -/
def enableWord (en : Bool) : Word := (BitVec.ofBool en).setWidth 32

/-- The address byte on the wire, `(a << 1) | rw` (R76). -/
def wireAddressByte (a : BitVec 7) (rw : Bool) : Byte := a ++ BitVec.ofBool rw

/-- DAT, bits 7:0 of an IC_DATA_CMD word (R27, R72). -/
def dataCmdDat (v : Word) : Byte := v.extractLsb' 0 8

/-- CMD, bit 8 (R27). -/
def dataCmdCmd (v : Word) : Bool := v.getLsbD 8

/-- STOP, bit 9 (R27). -/
def dataCmdStop (v : Word) : Bool := v.getLsbD 9

/-- RESTART, bit 10 (R27). -/
def dataCmdRestart (v : Word) : Bool := v.getLsbD 10

/-- Bits 31:11 of an IC_DATA_CMD word (R72). -/
def dataCmdMbz (v : Word) : BitVec 21 := v.extractLsb' 11 21

/-- The FIFO entry of an IC_DATA_CMD word (R104). -/
def entryOfWord (v : Word) : Entry :=
  { dat := dataCmdDat v, stop := dataCmdStop v, restart := dataCmdRestart v }

/-- MASTER_MODE, bit 0 of an IC_CON word (R25). -/
def conMasterMode (v : Word) : Bool := v.getLsbD 0

/-- SPEED, bits 2:1 (R25). -/
def conSpeed (v : Word) : BitVec 2 := v.extractLsb' 1 2

/-- IC_10BITADDR_SLAVE, bit 3 (R25): stored, no effect. -/
def con10BitAddrSlave (v : Word) : Bool := v.getLsbD 3

/-- IC_10BITADDR_MASTER, bit 4 (R25). -/
def con10BitAddrMaster (v : Word) : Bool := v.getLsbD 4

/-- IC_RESTART_EN, bit 5 (R25). -/
def conRestartEn (v : Word) : Bool := v.getLsbD 5

/-- IC_SLAVE_DISABLE, bit 6 (R25). -/
def conSlaveDisable (v : Word) : Bool := v.getLsbD 6

/-- STOP_DET_IFADDRESSED, bit 7 (R25): stored, no effect. -/
def conStopDetIfAddressed (v : Word) : Bool := v.getLsbD 7

/-- TX_EMPTY_CTRL, bit 8 (R25): stored, no effect. -/
def conTxEmptyCtrl (v : Word) : Bool := v.getLsbD 8

/-- RX_FIFO_FULL_HLD_CTRL, bit 9 (R25): stored, no effect. -/
def conRxFifoFullHldCtrl (v : Word) : Bool := v.getLsbD 9

/-- Bits 31:11 of an IC_CON word (R25). -/
def conReserved (v : Word) : BitVec 21 := v.extractLsb' 11 21

/-- An IC_CON word that R101 does not refuse. -/
def conAdmitted (v : Word) : Bool :=
  conReserved v == 0#21 && conMasterMode v && (conSpeed v == 1#2 || conSpeed v == 2#2) && !con10BitAddrMaster v
    && conSlaveDisable v

/-- `v & ~(1 << 10)`: bit 10, STOP_DET_IF_MASTER_ACTIVE, is read-only and reads 0 (R25, R100, R101). -/
def conClearBit10 (v : Word) : Word := v &&& ~~~(1#32 <<< 10)

/-- IC_TAR, bits 9:0 of an IC_TAR word (R26). -/
def tarField (v : Word) : BitVec 10 := v.extractLsb' 0 10

/-- GC_OR_START, bit 10 (R26): stored, no effect. -/
def tarGcOrStart (v : Word) : Bool := v.getLsbD 10

/-- SPECIAL, bit 11 (R26). -/
def tarSpecial (v : Word) : Bool := v.getLsbD 11

/-- Bits 31:12 of an IC_TAR word (R26). -/
def tarReserved (v : Word) : BitVec 20 := v.extractLsb' 12 20

/-- An IC_TAR word that R103 does not refuse. -/
def tarAdmitted (v : Word) : Bool :=
  tarReserved v == 0#20 && !tarSpecial v && decide ((tarField v).toNat ≤ 0x7F)

/-- `IC_TAR[6:0]`, the address of every START and RESTART (R54, R118). -/
def State.tarAddr (s : State) : BitVec 7 := s.icTar.extractLsb' 0 7

/-- ENABLE, bit 0 of an IC_ENABLE word (R28). -/
def enableEnable (v : Word) : Bool := v.getLsbD 0

/-- ABORT, bit 1 (R28): only 0 is admitted. -/
def enableAbort (v : Word) : Bool := v.getLsbD 1

/-- TX_CMD_BLOCK, bit 2 (R28): only 0 is admitted. -/
def enableTxCmdBlock (v : Word) : Bool := v.getLsbD 2

/-- Bits 31:3 of an IC_ENABLE word (R28). -/
def enableReserved (v : Word) : BitVec 29 := v.extractLsb' 3 29

/-- An IC_ENABLE word that R106 does not refuse: bits 31:1 zero. -/
def enableAdmitted (v : Word) : Bool :=
  !enableAbort v && !enableTxCmdBlock v && enableReserved v == 0#29

/-- `IC_ENABLE.ENABLE` of the stored register. -/
def State.enabled (s : State) : Bool := enableEnable s.icEnable

/-- A speed code INITIALIZE admits (R140, D27). -/
def speedAdmitted (spd : BitVec 2) : Bool := spd == 1#2 || spd == 2#2

end Sys2Proof.Machine
end

