-- ==== Sys2Proof/Machine/Flags.lean ====
section
/-! DEFINITION. The flags: the bits of IC_STATUS, computed from the controller state (R29, R36, R107), and the numeric
codes of faults and refusals (R201, R202). -/

namespace Sys2Proof.Machine

/-- ACTIVITY, bit 0 (R29, decision D6, log 25). -/
def State.activity (s : State) : Bool :=
  s.bus == .active || s.held || (s.enabled && !s.txAbort && decide (0 < s.fifo.length))

/-- TFNF, bit 1: the FIFO has room (R29). -/
def State.tfnf (s : State) : Bool := decide (s.fifo.length < s.params.txFifoDepth)

/-- TFE, bit 2: the FIFO is empty (R29). -/
def State.tfe (s : State) : Bool := decide (s.fifo.length = 0)

/-- RFNE, bit 3 (R29). -/
def State.rfne (_ : State) : Bool := false

/-- RFF, bit 4 (R29). -/
def State.rff (_ : State) : Bool := false

/-- MST_ACTIVITY, bit 5: equal to bit 0 (R29). -/
def State.mstActivity (s : State) : Bool := s.activity

/-- SLV_ACTIVITY, bit 6 (R29). -/
def State.slvActivity (_ : State) : Bool := false

/-- The value of IC_STATUS (R29, R107): bits 6 to 0 and zeros above (log 6). -/
def State.icStatus (s : State) : Word :=
  (BitVec.ofBool s.slvActivity ++ BitVec.ofBool s.mstActivity ++ BitVec.ofBool s.rff ++ BitVec.ofBool s.rfne
    ++ BitVec.ofBool s.tfe ++ BitVec.ofBool s.tfnf ++ BitVec.ofBool s.activity).setWidth 32

/-- Bit 0 of a status word as SEQ polls it (R141). -/
def statusActivity (v : Word) : Bool := v.getLsbD 0

/-- Bit 1 of a status word as SEQ polls it (R141). -/
def statusTfnf (v : Word) : Bool := v.getLsbD 1

/-- The code R201 gives a fault. -/
def faultCode : Fault → Nat
  | .fReinit => 1
  | .fNotInitialized => 2
  | .fCfgWhileEnabled => 3
  | .fPushDisabled => 4
  | .fPushFull => 5
  | .fDisableActive => 6

/-- The code R202 gives a refusal; the model's own rejection by name has none. -/
def refusalCode : Refusal → Option Nat
  | .qUnmodelled => some 1
  | .qReadback => some 2
  | .qReserved => some 3
  | .qRestartDisabled => some 4
  | .qConField => some 5
  | .qTarField => some 6
  | .qEnableField => some 7
  | .qSpeed => some 8
  | .qFbLength => some 9
  | .qReservedOp => some 10
  | _ => none

/-- The refusal an encoding-level rejection is (R202). -/
def refusalOfReject : DecodeReject → Refusal
  | .unmodelled => .qUnmodelled
  | .readback => .qReadback
  | .reservedOp => .qReservedOp

end Sys2Proof.Machine
end

