-- ==== Sys2Proof/Machine/Controller.lean ====
section
/-! DEFINITION. CTRL's steps (R110 to R115), as functions of the slave's answer and of the outcome NackOutcome() chooses. -/

namespace Sys2Proof.Machine

/-- When CTRL has a step (R112, with the preconditions of R110 and R111; log 7). -/
def State.ctrlEnabled (s : State) : Bool :=
  s.enabled && decide (0 < s.fifo.length) && !s.held && !s.txAbort && s.fault.isNone && s.refused.isNone

/-- NackOutcome() (R114). -/
def nackOutcome (o : NackChoice) (s : State) : State :=
  match o with
  | .abort => (((s.emit [.stop]).setFifo []).setBus .idle).setTxAbort true
  | .hold => s.setHeld true

/-- `fifo[0].restart <- 0` (R110, R111). -/
def clearHeadRestart (q : List Entry) : List Entry :=
  match q with
  | [] => []
  | e :: rest => { e with restart := false } :: rest

/-- C_START (R110). -/
def ctrlStart (r : Answer) (o : NackChoice) (s : State) : State :=
  match r with
  | .stall => s
  | .ack =>
    ((s.emit [.start, .addr s.tarAddr false .ack]).setBus .active).setFifo (clearHeadRestart s.fifo)
  | .nack => nackOutcome o ((s.emit [.start, .addr s.tarAddr false .nack]).setBus .active)

/-- C_BYTE with the head's RESTART flag set: the repeated START alone (R111). -/
def ctrlRestart (r : Answer) (o : NackChoice) (s : State) : State :=
  match r with
  | .stall => s
  | .ack => (s.emit [.restart, .addr s.tarAddr false .ack]).setFifo (clearHeadRestart s.fifo)
  | .nack => nackOutcome o (s.emit [.restart, .addr s.tarAddr false .nack])

/-- C_BYTE with no RESTART flag on the head `e`: the byte, and STOP after it when the entry carries STOP (R111). -/
def ctrlData (e : Entry) (r : Answer) (o : NackChoice) (s : State) : State :=
  match r with
  | .stall => s
  | .ack =>
    if e.stop then ((s.popEntry).emit [.data e.dat .ack, .stop]).setBus .idle
    else (s.popEntry).emit [.data e.dat .ack]
  | .nack => nackOutcome o ((s.popEntry).emit [.data e.dat .nack])

/-- C_BYTE (R111). -/
def ctrlByte (r : Answer) (o : NackChoice) (s : State) : State :=
  match s.fifo with
  | [] => s
  | e :: _ => if e.restart then ctrlRestart r o s else ctrlData e r o s

/-- The one step CTRL has in a state where it is enabled: C_START with the bus idle, C_BYTE with it active. -/
def ctrlStep (r : Answer) (o : NackChoice) (s : State) : State :=
  match s.bus with
  | .idle => ctrlStart r o s
  | .active => ctrlByte r o s

end Sys2Proof.Machine
end

