-- ==== Sys2Proof/Machine/Points.lean ====
section
/-! DEFINITION. The pseudocode of the operations as data: which transfers an operation performs (R141, R161, R162, R163,
R167), the register access at each point, and how an operation is taken and completed (R22, R23). -/

namespace Sys2Proof.Machine

/-- The payload of a command transfer (R160, R161). -/
def commandTransfer (b : Byte) : List Byte := [cbCmd, b]

/-- The payload of a one-byte data transfer (R160, R167). -/
def dataTransfer (b : Byte) : List Byte := [cbData, b]

/-- The transfers of SEND_COMMAND_LIST, one per element in order (R162). -/
def commandTransfers (l : List Byte) : List (List Byte) := l.map commandTransfer

/-- The transfers of SEND_FRAMEBUFFER: the address table first, then the data under the framing FB_BURST selects (R167). -/
def framebufferTransfers (p : Params) (f : List Byte) : List (List Byte) :=
  commandTransfers addrTable ++ (if p.fbBurst then [cbData :: f] else f.map dataTransfer)

/-- The WRITE_BUFFER operations an instruction performs, in order, each by its byte sequence; none for an instruction
that performs no WRITE_BUFFER (R87). -/
def transfers (p : Params) : Instr → List (List Byte)
  | .ldrIcCon => []
  | .strIcCon _ => []
  | .ldrIcTar => []
  | .strIcTar _ => []
  | .strIcDataCmd _ => []
  | .ldrIcEnable => []
  | .strIcEnable _ => []
  | .ldrIcStatus => []
  | .initializeOp _ _ => []
  | .writeBuffer s => [s]
  | .sendCommand b => [commandTransfer b]
  | .sendCommandList l => commandTransfers l
  | .sendFramebuffer f => framebufferTransfers p f
  | .initSequence => commandTransfers p.initTable

/-- The first point of transfer number `j` (R141): the first poll for room, or, with nothing to send, the poll for idle;
none past the last transfer. -/
def transferStart (ts : List (List Byte)) (j : Nat) : Option Point :=
  match ts[j]? with
  | none => none
  | some [] => some (.pollIdle j)
  | some (_ :: _) => some (.pollTfnf j 0)

/-- The register writes of INITIALIZE in order, CFG_0 to CFG_3 (R140). -/
def initializeAccesses (spd : BitVec 2) (a7 : BitVec 7) : List Instr :=
  [.strIcEnable (enableWord false), .strIcCon (conWord spd), .strIcTar (tarWord a7), .strIcEnable (enableWord true)]

/-- The configuration writes of an operation: INITIALIZE alone has any (R140). -/
def cfgAccesses : Instr → List Instr
  | .initializeOp spd a7 => initializeAccesses spd a7
  | .ldrIcCon | .strIcCon _ | .ldrIcTar | .strIcTar _ | .strIcDataCmd _ | .ldrIcEnable | .strIcEnable _
  | .ldrIcStatus | .writeBuffer _ | .sendCommand _ | .sendCommandList _ | .sendFramebuffer _ | .initSequence => []

/-- The push of byte `i` of a transfer, with STOP on the last byte only (R141, R246). -/
def pushAccess (bytes : List Byte) (i : Nat) : Option Instr :=
  match bytes[i]? with
  | none => none
  | some b => some (.strIcDataCmd (dataCmdWord b (decide (i + 1 = bytes.length)) false))

/-- The one register access at a point (R22, R23); none at a place that is no point of the operation (log 21). -/
def accessAt (p : Params) (op : Instr) : Point → Option Instr
  | .cfg n => (cfgAccesses op)[n]?
  | .pollTfnf j i =>
    match (transfers p op)[j]? with
    | none => none
    | some bytes => if i < bytes.length then some .ldrIcStatus else none
  | .push j i =>
    match (transfers p op)[j]? with
    | none => none
    | some bytes => pushAccess bytes i
  | .pollIdle j => if j < (transfers p op).length then some .ldrIcStatus else none

/-- What an operation does when it completes: INITIALIZE sets the phase (R140), INIT_SEQUENCE sets `init_done` (R163),
and every operation leaves SEQ idle (R23). -/
def complete (op : Instr) (s : State) : State :=
  match op with
  | .initializeOp _ _ => (s.setPhase .ready).setPos .idle
  | .initSequence => (s.setInitDone true).setPos .idle
  | .ldrIcCon | .strIcCon _ | .ldrIcTar | .strIcTar _ | .strIcDataCmd _ | .ldrIcEnable | .strIcEnable _
  | .ldrIcStatus | .writeBuffer _ | .sendCommand _ | .sendCommandList _ | .sendFramebuffer _ => s.setPos .idle

/-- SEQ goes to the first point of transfer `j`, or completes the operation when there is no such transfer (R23). -/
def enterTransfer (op : Instr) (j : Nat) (s : State) : State :=
  match transferStart (transfers s.params op) j with
  | none => complete op s
  | some k => s.setPos (.at op k)

/-- SEQ takes an operation made of WRITE_BUFFERs (R23): with none it completes at once; the first one faults in phase
UNINIT before any access (R141, log 12). -/
def startTransfers (op : Instr) (s : State) : Result :=
  if transfers s.params op ≠ [] ∧ s.phase = .uninit then .fault .fNotInitialized
  else .next (enterTransfer op 0 s)

/-- Where SEQ goes after the access at a point, given the state the access left (R23, R141, R148): a poll whose condition
fails stays at its own read. -/
def advance (op : Instr) (k : Point) (s : State) : State :=
  match k with
  | .cfg n => if n + 1 < (cfgAccesses op).length then s.setPos (.at op (.cfg (n + 1))) else complete op s
  | .pollTfnf j i => if statusTfnf s.rdata then s.setPos (.at op (.push j i)) else s
  | .push j i =>
    if i + 1 < ((transfers s.params op).getD j []).length then s.setPos (.at op (.pollTfnf j (i + 1)))
    else s.setPos (.at op (.pollIdle j))
  | .pollIdle j => if statusActivity s.rdata then s else enterTransfer op (j + 1) s

end Sys2Proof.Machine
end

