-- ==== Sys2Proof/Machine/Engine.lean ====
section
/-! DEFINITION. The meanings of the two operations of the transaction engine (R140, R141). Each is the step in which SEQ
takes the operation (R23); the accesses that follow are SEQ's own steps. CALLER issues an operation only when SEQ is IDLE
(R3, R23), so no meaning looks at the position it replaces (log 28). -/

namespace Sys2Proof.Machine

/-- INITIALIZE speed, addr (R140): Q_SPEED, then F_REINIT, then the first configuration write is due. -/
def execInitialize (spd : BitVec 2) (a7 : BitVec 7) (s : State) : Result :=
  if speedAdmitted spd then
    if s.phase = .ready then .fault .fReinit
    else .next (s.setPos (.at (.initializeOp spd a7) (.cfg 0)))
  else .refused .qSpeed

/-- WRITE_BUFFER S (R141). -/
def execWriteBuffer (bytes : List Byte) (s : State) : Result :=
  startTransfers (.writeBuffer bytes) s

end Sys2Proof.Machine
end

