-- ==== Sys2Proof/Machine/Protocol.lean ====
section
/-! DEFINITION. The meanings of the four operations of the SSD1306 protocol layer (R161, R162, R163, R167), each the step
in which SEQ takes the operation (R23). -/

namespace Sys2Proof.Machine

/-- SEND_COMMAND b (R161). -/
def execSendCommand (b : Byte) (s : State) : Result :=
  startTransfers (.sendCommand b) s

/-- SEND_COMMAND_LIST L (R162): the empty list completes at once in any phase. -/
def execSendCommandList (bytes : List Byte) (s : State) : Result :=
  startTransfers (.sendCommandList bytes) s

/-- SEND_FRAMEBUFFER F (R167): Q_FB_LENGTH before anything else (R204). -/
def execSendFramebuffer (bytes : List Byte) (s : State) : Result :=
  if bytes.length = fbSize then startTransfers (.sendFramebuffer bytes) s
  else .refused .qFbLength

/-- INIT_SEQUENCE (R163; log 11 for an empty INIT_TABLE). -/
def execInitSequence (s : State) : Result :=
  startTransfers .initSequence s

end Sys2Proof.Machine
end

