-- ==== Sys2Proof/Machine/RegisterAccess.lean ====
section
/-! DEFINITION. The meanings of the eight register accesses (R100 to R107). Checks stand in the order of R204: field
refusals, then state faults, then the effect. -/

namespace Sys2Proof.Machine

/-- A register write: a field refusal, a state fault, or the effect (R204). -/
def writeRegister (refuses : Option Refusal) (faults : Option Fault) (effect : State) : Result :=
  match refuses with
  | some q => .refused q
  | none =>
    match faults with
    | some f => .fault f
    | none => .next effect

/-- LDR IC_CON (R100): bit 10 always reads 0. -/
def execLdrIcCon (s : State) : Result := .next (s.setRdata (conClearBit10 s.icCon))

/-- STR IC_CON (R101). -/
def execStrIcCon (v : Word) (s : State) : Result :=
  writeRegister
    (if conAdmitted v then none else some .qConField)
    (if s.enabled then some .fCfgWhileEnabled else none)
    (s.setIcCon (conClearBit10 v))

/-- LDR IC_TAR (R102). -/
def execLdrIcTar (s : State) : Result := .next (s.setRdata s.icTar)

/-- STR IC_TAR (R103). -/
def execStrIcTar (v : Word) (s : State) : Result :=
  writeRegister
    (if tarAdmitted v then none else some .qTarField)
    (if s.enabled then some .fCfgWhileEnabled else none)
    (s.setIcTar v)

/-- The field refusal of an IC_DATA_CMD write, first match first (R104). -/
def dataCmdRefusal (v : Word) (s : State) : Option Refusal :=
  if dataCmdCmd v then some .qReadback
  else if dataCmdMbz v ≠ 0#21 then some .qReserved
  else if dataCmdRestart v && !conRestartEn s.icCon then some .qRestartDisabled
  else none

/-- The state fault of an IC_DATA_CMD write: with `tx_abort` set a full FIFO is never reached (R104). -/
def dataCmdFault (s : State) : Option Fault :=
  if !s.enabled then some .fPushDisabled
  else if !s.txAbort && decide (s.fifo.length = s.params.txFifoDepth) then some .fPushFull
  else none

/-- STR IC_DATA_CMD (R104): with `tx_abort` set the write is accepted and discarded. -/
def execStrIcDataCmd (v : Word) (s : State) : Result :=
  writeRegister (dataCmdRefusal v s) (dataCmdFault s) (if s.txAbort then s else s.pushEntry (entryOfWord v))

/-- LDR IC_ENABLE (R105). -/
def execLdrIcEnable (s : State) : Result := .next (s.setRdata s.icEnable)

/-- STR IC_ENABLE (R106). -/
def execStrIcEnable (v : Word) (s : State) : Result :=
  writeRegister
    (if enableAdmitted v then none else some .qEnableField)
    (if !enableEnable v && (s.bus == .active || s.held || decide (0 < s.fifo.length)) then some .fDisableActive
     else none)
    (s.setIcEnable v)

/-- LDR IC_STATUS (R107). -/
def execLdrIcStatus (s : State) : Result := .next (s.setRdata s.icStatus)

end Sys2Proof.Machine
end

