-- ==== Sys2Proof/Machine/Dispatch.lean ====
section
/-! DEFINITION. One arm per instruction, each one call of its meaning. -/

namespace Sys2Proof.Machine

/-- The meaning of an instruction. -/
def exec (i : Instr) (s : State) : Host.Outcome State Fault Refusal :=
  match i with
  | .ldrIcCon => Sys2Proof.Machine.execLdrIcCon s
  | .strIcCon v => Sys2Proof.Machine.execStrIcCon v s
  | .ldrIcTar => Sys2Proof.Machine.execLdrIcTar s
  | .strIcTar v => Sys2Proof.Machine.execStrIcTar v s
  | .strIcDataCmd v => Sys2Proof.Machine.execStrIcDataCmd v s
  | .ldrIcEnable => Sys2Proof.Machine.execLdrIcEnable s
  | .strIcEnable v => Sys2Proof.Machine.execStrIcEnable v s
  | .ldrIcStatus => Sys2Proof.Machine.execLdrIcStatus s
  | .initializeOp spd a7 => Sys2Proof.Machine.execInitialize spd a7 s
  | .writeBuffer bytes => Sys2Proof.Machine.execWriteBuffer bytes s
  | .sendCommand b => Sys2Proof.Machine.execSendCommand b s
  | .sendCommandList bytes => Sys2Proof.Machine.execSendCommandList bytes s
  | .sendFramebuffer bytes => Sys2Proof.Machine.execSendFramebuffer bytes s
  | .initSequence => Sys2Proof.Machine.execInitSequence s

end Sys2Proof.Machine
end

