-- ==== Sys2Proof/Machine/Sequencer.lean ====
section
/-! DEFINITION. The steps of the single thread: CALLER offering the next statement (R23, R37, R170) and SEQ performing one
register access (R23), of an operation or of a raw program (R88). -/

namespace Sys2Proof.Machine

/-- A request as it is encoded runs as the instruction the decoder reads, or is refused (R80, R81, R204). -/
def execDecoded (d : Except DecodeReject Instr) (s : State) : Result :=
  match d with
  | .ok i => exec i s
  | .error e => .refused (refusalOfReject e)

/-- SEQ at AT(op, k): the access of that point, then the next point (R23). -/
def seqStep (op : Instr) (k : Point) (s : State) : Result :=
  match accessAt s.params op k with
  | none => .next s
  | some i => thenDo (exec i s) (advance op k)

/-- Whether a raw program's element is done, given the value just read: a poll repeats until its condition holds (R87,
R88). -/
def accessDone (a : Access) (v : Word) : Bool :=
  match a with
  | .pollTfnf => statusTfnf v
  | .pollIdle => !statusActivity v
  | .ra _ _ | .bus _ _ _ _ | .push _ | .pushStop _ => true

/-- SEQ's position with these accesses of a raw program still to run. -/
def rawPos (accesses : List Access) : Pos :=
  match accesses with
  | [] => .idle
  | a :: rest => .raw (a :: rest)

/-- SEQ in a raw program, at the access `a` with `rest` after it (R88). -/
def rawStep (a : Access) (rest : List Access) (s : State) : Result :=
  thenDo (execDecoded (decodeAccess s.params.i2cBase a) s)
    (fun t => if accessDone a t.rdata then t.setPos (rawPos rest) else t)

/-- CALLER with SEQ idle (R23, R170): a request is taken in this step; a loop is opened by one iteration (log 13). -/
def callerStep (s : State) : Result :=
  match s.program with
  | .done => .next s
  | .request w seqarg rest => execDecoded (decode (.op w seqarg)) (s.setProgram rest)
  | .repeatN 0 _ rest => .next (s.setProgram rest)
  | .repeatN (n + 1) body rest => .next (s.setProgram (body.andThen (.repeatN n body rest)))
  | .forever body rest => .next (s.setProgram (body.andThen (.forever body rest)))
  | .raw accesses rest => .next ((s.setProgram rest).setPos (rawPos accesses))

/-- When CALLER or SEQ has a step: an operation is in progress, or CALLER has a statement left, and the run is not
stopped (R39, R171). -/
def State.threadEnabled (s : State) : Bool :=
  (s.pos != .idle || s.program != .done) && s.fault.isNone && s.refused.isNone

/-- The step of CALLER or SEQ. -/
def threadStep (s : State) : Result :=
  match s.pos with
  | .idle => callerStep s
  | .at op k => seqStep op k s
  | .raw [] => .next (s.setPos .idle)
  | .raw (a :: rest) => rawStep a rest s

/-- The agent that takes the next step: the one the free choice offers it to if that one has a step, else the other one
if it has a step, else none (R64, log 2). -/
def State.stepper (s : State) : Option Agent :=
  match s.choice.agent with
  | .ctrl => if s.ctrlEnabled then some .ctrl else if s.threadEnabled then some .thread else none
  | .thread => if s.threadEnabled then some .thread else if s.ctrlEnabled then some .ctrl else none

end Sys2Proof.Machine
end

