-- ==== Sys2Proof/Machine/Fetch.lean ====
section
/-! DEFINITION. How an encoded request is put where the next step runs it (log 8, log 9): the display core fetches from no
memory (R68); an OP request stands at the head of CALLER's program, an RA access at SEQ's position in a raw program. -/

namespace Sys2Proof.Machine

/-- The choice that offers the next step to the thread. -/
def threadChoice : Choice := { agent := .thread, answer := .ack, nack := .hold }

/-- The state whose next step runs exactly this encoded request. -/
def placeRequest (s : State) (e : Encoded) : State :=
  match e with
  | .ra sel wdata =>
    { s with pos := .raw [.ra sel wdata], fault := none, refused := none, script := threadChoice :: s.script }
  | .op w seqarg =>
    { s with pos := .idle, program := .request w seqarg s.program, fault := none, refused := none,
             script := threadChoice :: s.script }

end Sys2Proof.Machine
end

