-- ==== Sys2Proof/Machine/Step.lean ====
section
/-! DEFINITION. One step of the machine: an interleaving of single steps of the thread and CTRL (R64). -/

namespace Sys2Proof.Machine

/-- One step. A run that a fault or refusal has stopped stays stopped (R39, R205). Otherwise the step's free choice is
taken, and the agent it gives the step to takes it; with no agent enabled nothing changes (R171, R241). -/
def step (s : State) : Host.Outcome State Fault Refusal :=
  match s.fault, s.refused with
  | some f, _ => .fault f
  | none, some q => .refused q
  | none, none =>
    match s.stepper with
    | some .ctrl => .next (ctrlStep s.choice.answer s.choice.nack s.draw)
    | some .thread => recordMark s.draw (threadStep s.draw)
    | none => .next s.draw

/-- The state whose next step runs exactly the instruction of a table word (log 8). -/
def State.withFetchWord (s : State) (nbits w : Nat) : State :=
  placeRequest s (encodedOfTableWord nbits w)

end Sys2Proof.Machine
end

