-- ==== Sys2Proof/Machine/Assembly.lean ====
section
/-! DEFINITION. The written form of caller programs (R84 to R88): text to tokens, tokens to a program. Text outside the
grammar has no program. -/

namespace Sys2Proof.Machine

/-- A token: a name, a number, or a mark (brackets, braces, comma, semicolon, star). -/
inductive Token where
  | name (letters : List Char)
  | number (n : Nat)
  | mark (c : Char)
  deriving DecidableEq, Repr

/-- The opening brace. -/
def openBrace : Char := Char.ofNat 123

/-- The closing brace. -/
def closeBrace : Char := Char.ofNat 125

/-- The value of a digit in a base up to 16. -/
def digitValue (base : Nat) (c : Char) : Option Nat :=
  let n := c.toNat
  let v := if 48 ≤ n ∧ n ≤ 57 then n - 48 else if 97 ≤ n ∧ n ≤ 102 then n - 87 else if 65 ≤ n ∧ n ≤ 70 then n - 55 else 16
  if v < base then some v else none

/-- The digits of a number in some base, most significant first, added to `acc`. -/
def digitsValue (base acc : Nat) : List Char → Option Nat
  | [] => some acc
  | c :: rest =>
    match digitValue base c with
    | some v => digitsValue base (acc * base + v) rest
    | none => none

/-- A number, decimal or hexadecimal after `0x` (R7, R84). -/
def numberOf (w : List Char) : Option Nat :=
  match w with
  | '0' :: 'x' :: d :: rest => digitsValue 16 0 (d :: rest)
  | d :: rest => digitsValue 10 0 (d :: rest)
  | [] => none

/-- A finished word as a token: a number when it begins with a digit, a name otherwise. -/
def wordToken (w : List Char) : Option Token :=
  match w with
  | [] => none
  | c :: _ => if (digitValue 10 c).isSome then (numberOf w).map .number else some (.name w)

/-- The token of the word collected so far, in front of the tokens that follow it. -/
def flushWord (acc : List Char) (rest : Option (List Token)) : Option (List Token) :=
  match acc with
  | [] => rest
  | _ :: _ =>
    match wordToken acc.reverse, rest with
    | some t, some ts => some (t :: ts)
    | _, _ => none

/-- Whether a character stands in a word. -/
def wordChar (c : Char) : Bool := c.isAlphanum || c == '_'

/-- The tokens of a text; `acc` is the word being collected, last character first. -/
def tokens (acc : List Char) : List Char → Option (List Token)
  | [] => flushWord acc (some [])
  | c :: rest =>
    if wordChar c then tokens (c :: acc) rest
    else if c.isWhitespace then flushWord acc (tokens [] rest)
    else if c ∈ ['[', ']', ',', ';', '*', openBrace, closeBrace] then
      flushWord acc ((tokens [] rest).map (.mark c :: ·))
    else none

/-- A number below 256. -/
def byteOf (n : Nat) : Option Byte := if n < 256 then some (BitVec.ofNat 8 n) else none

/-- The elements of a sequence after its opening bracket, up to and with the closing one (R85). -/
def parseElements : List Token → Option (List Byte × List Token)
  | .mark ']' :: rest => some ([], rest)
  | .number n :: .mark ']' :: rest => (byteOf n).map (fun b => ([b], rest))
  | .number n :: .mark ',' :: rest =>
    match byteOf n, parseElements rest with
    | some b, some (bs, rest') => if bs = [] then none else some (b :: bs, rest')
    | _, _ => none
  | _ => none

/-- A sequence operand, `[b, ...]` or `[v]*n` (R85). -/
def parseSequence : List Token → Option (List Byte × List Token)
  | .mark '[' :: rest =>
    match parseElements rest with
    | some ([v], .mark '*' :: .number n :: rest') => some (List.replicate n v, rest')
    | other => other
  | _ => none

/-- A sequence operand or the name of one (R85). -/
def parseNamedSequence (names : List (List Char × List Byte)) : List Token → Option (List Byte × List Token)
  | .name w :: rest => (names.find? (fun e => e.1 == w)).map (fun e => (e.2, rest))
  | ts => parseSequence ts

/-- The offset of a register name (R24, R84). -/
def registerOffset (w : List Char) : Option (BitVec 8) :=
  if w = "IC_CON".toList then some 0x00#8
  else if w = "IC_TAR".toList then some 0x04#8
  else if w = "IC_DATA_CMD".toList then some 0x10#8
  else if w = "IC_ENABLE".toList then some 0x6C#8
  else if w = "IC_STATUS".toList then some 0x70#8
  else none

/-- One element of a raw program (R84, R86, R87). -/
def parseAccess : List Token → Option (Access × List Token)
  | .name op :: rest =>
    if op = "POLL_TFNF".toList then some (.pollTfnf, rest)
    else if op = "POLL_IDLE".toList then some (.pollIdle, rest)
    else
      match rest with
      | .number n :: rest' =>
        if op = "PUSH".toList then (byteOf n).map (fun b => (.push b, rest'))
        else if op = "PUSH_STOP".toList then (byteOf n).map (fun b => (.pushStop b, rest'))
        else none
      | .name reg :: rest' =>
        match registerOffset reg with
        | none => none
        | some off =>
          if op = "LDR".toList then some (.ra (0#1 ++ off) 0, rest')
          else if op = "STR".toList then
            match rest' with
            | .mark ',' :: .number n :: rest'' =>
              if n < 2 ^ 32 then some (.ra (1#1 ++ off) (BitVec.ofNat 32 n), rest'') else none
            | _ => none
          else none
      | _ => none
  | _ => none

/-- The elements of a raw program after its opening brace, separated by semicolons, up to and with the closing brace;
`fuel` bounds their number (R86, R88). -/
def parseAccesses : Nat → List Token → Option (List Access × List Token)
  | 0, _ => none
  | fuel + 1, ts =>
    match parseAccess ts with
    | some (a, .mark c :: rest) =>
      if c = closeBrace then some ([a], rest)
      else if c = ';' then (parseAccesses fuel rest).map (fun r => (a :: r.1, r.2))
      else none
    | _ => none

/-- INITIALIZE with both operands, or with the address alone (R85, R87). -/
def parseInitialize : List Token → Option (Instr × List Token)
  | .number n :: .mark ',' :: .number a :: rest =>
    if n < 4 ∧ a < 128 then some (.initializeOp (BitVec.ofNat 2 n) (BitVec.ofNat 7 a), rest) else none
  | .number a :: rest => if a < 128 then some (initializePseudo (BitVec.ofNat 7 a), rest) else none
  | _ => none

/-- An operation request whose name has been read (R85). -/
def parseRequest (names : List (List Char × List Byte)) (op : List Char) (ts : List Token) :
    Option (Instr × List Token) :=
  if op = "INITIALIZE".toList then parseInitialize ts
  else if op = "WRITE_BUFFER".toList then (parseSequence ts).map (fun r => (.writeBuffer r.1, r.2))
  else if op = "SEND_COMMAND".toList then
    match ts with
    | .number n :: rest => (byteOf n).map (fun b => (.sendCommand b, rest))
    | _ => none
  else if op = "SEND_COMMAND_LIST".toList then (parseSequence ts).map (fun r => (.sendCommandList r.1, r.2))
  else if op = "SEND_FRAMEBUFFER".toList then
    (parseNamedSequence names ts).map (fun r => (.sendFramebuffer r.1, r.2))
  else if op = "INIT_SEQUENCE".toList then some (.initSequence, ts)
  else none

/-- The statements of a program up to its end or to a closing brace that closes an enclosing loop (R86); `fuel` bounds
the number of statements. -/
def parseProgram (names : List (List Char × List Byte)) : Nat → List Token → Option (Program × List Token)
  | 0, _ => none
  | fuel + 1, ts =>
    match ts with
    | [] => some (.done, [])
    | .name w :: rest =>
      if w = "REPEAT".toList then
        match rest with
        | .number n :: .mark c :: body =>
          if c = openBrace then
            match parseProgram names fuel body with
            | some (b, .mark d :: after) =>
              if d = closeBrace then (parseProgram names fuel after).map (fun r => (.repeatN n b r.1, r.2)) else none
            | _ => none
          else none
        | _ => none
      else if w = "FOREVER".toList then
        match rest with
        | .mark c :: body =>
          if c = openBrace then
            match parseProgram names fuel body with
            | some (b, .mark d :: after) =>
              if d = closeBrace then (parseProgram names fuel after).map (fun r => (.forever b r.1, r.2)) else none
            | _ => none
          else none
        | _ => none
      else if w = "RAW".toList then
        match rest with
        | .mark c :: body =>
          if c = openBrace then
            match parseAccesses body.length body with
            | some (as, after) => (parseProgram names fuel after).map (fun r => (.raw as r.1, r.2))
            | none => none
          else none
        | _ => none
      else
        match parseRequest names w rest with
        | some (i, after) => (parseProgram names fuel after).map (fun r => (.ofInstr i r.1, r.2))
        | none => none
    | .mark c :: _ => if c = closeBrace then some (.done, ts) else none
    | .number _ :: _ => none

/-- The program of a text, with the byte sequences its names stand for (R85, R86). -/
def assemble (names : List (List Char × List Byte)) (text : String) : Option Program :=
  match tokens [] text.toList with
  | none => none
  | some ts =>
    match parseProgram names (ts.length + 1) ts with
    | some (p, []) => some p
    | _ => none

end Sys2Proof.Machine
end

