-- ==== Sys2Proof/Machine/Panel.lean ====
section
/-! DEFINITION. The reference panel observer of R210 to R217: a function of the bus trace alone. It is not part of the
display core, and no rule of the core reads it. -/

namespace Sys2Proof.Machine

/-- The panel's addressing mode (R211). -/
inductive PanelMode where
  | horizontal
  | vertical
  | page
  deriving DecidableEq, Repr

/-- Where the observer stands in a transaction (R210, R212): outside one, in one it ignores, before the first ADDR, before a
control byte, before the one byte a Co = 1 control byte announces, or in the bytes after a Co = 0 control byte. The flag
is D/C#. -/
inductive PanelParse where
  | outside
  | ignored
  | address
  | control
  | one (dc : Bool)
  | rest (dc : Bool)
  deriving DecidableEq, Repr

/-- The fields of a known observer (R211), with its place in the current transaction. Columns and pages are naturals kept
in range by the observer's rules. -/
structure Panel where
  displayOn : Bool
  mode : PanelMode
  colStart : Nat
  colEnd : Nat
  pageStart : Nat
  pageEnd : Nat
  col : Nat
  page : Nat
  /-- Display RAM: the cell of page `p` and column `c` has address `128 * p + c` (R213). -/
  ram : Memory
  /-- A command still short of arguments, and the arguments collected so far. -/
  pending : Option (Byte × List Byte)
  parse : PanelParse
  deriving DecidableEq, Repr

/-- The observer's state: R211's `known` is which of the two it is. An unknown observer predicts nothing (R216), so it has
no field whose value could be read (log 15). -/
inductive Observer where
  | known (p : Panel)
  | unknown
  deriving DecidableEq, Repr

/-- The panel's columns and pages (R6). -/
def panelColumns : Nat := 128

/-- The panel's pages (R6). -/
def panelPages : Nat := 8

/-- The fields at panel reset (R211). -/
def Panel.reset : Panel where
  displayOn := false
  mode := .page
  colStart := 0
  colEnd := 127
  pageStart := 0
  pageEnd := 7
  col := 0
  page := 0
  ram := []
  pending := none
  parse := .outside

/-- The observer at panel reset (R211). -/
def Observer.reset : Observer := .known Panel.reset

/-- The address of a display RAM cell. -/
def ramAddress (page col : Nat) : Nat := panelColumns * page + col

/-- Whether the write window lets data through (R214). -/
def Panel.writable (p : Panel) : Bool :=
  p.mode == .horizontal && decide (p.colStart ≤ p.colEnd) && decide (p.pageStart ≤ p.pageEnd)

/-- A display-data byte in a writable window (R214). -/
def Panel.store (p : Panel) (d : Byte) : Panel :=
  let stored := { p with ram := writeByte p.ram (ramAddress p.page p.col) d }
  if p.col = p.colEnd then
    { stored with col := p.colStart, page := if p.page = p.pageEnd then p.pageStart else p.page + 1 }
  else { stored with col := p.col + 1 }

/-- A display-data byte (R214). -/
def Panel.dataByte (p : Panel) (d : Byte) : Observer :=
  if p.writable then .known (p.store d) else .unknown

/-- The addressing mode `m[1:0]` selects (R215). -/
def panelModeOf (m : Byte) : Option PanelMode :=
  if m.extractLsb' 0 2 = 0#2 then some .horizontal
  else if m.extractLsb' 0 2 = 1#2 then some .vertical
  else if m.extractLsb' 0 2 = 2#2 then some .page
  else none

/-- A column argument, bits 6:0 (R215). -/
def columnArg (b : Byte) : Nat := (b.extractLsb' 0 7).toNat

/-- A page argument, bits 2:0 (R215). -/
def pageArg (b : Byte) : Nat := (b.extractLsb' 0 3).toNat

/-- A command with all its arguments takes effect (R215). -/
def Panel.perform (p : Panel) (c : Byte) (args : List Byte) : Observer :=
  if c = 0xAE#8 then .known { p with displayOn := false }
  else if c = 0xAF#8 then .known { p with displayOn := true }
  else if c = 0x20#8 then
    match args with
    | [m] =>
      match panelModeOf m with
      | some mode => .known { p with mode := mode }
      | none => .unknown
    | _ => .unknown
  else if c = 0x21#8 then
    match args with
    | [a, b] => .known { p with colStart := columnArg a, colEnd := columnArg b, col := columnArg a }
    | _ => .unknown
  else if c = 0x22#8 then
    match args with
    | [a, b] => .known { p with pageStart := pageArg a, pageEnd := pageArg b, page := pageArg a }
    | _ => .unknown
  else .known p

/-- A command `c` with the arguments collected so far takes effect once they are complete, and waits otherwise (R215). -/
def Panel.collect (p : Panel) (c : Byte) (args : List Byte) : Observer :=
  match commandArgs c with
  | none => .unknown
  | some n =>
    if args.length < n then .known { p with pending := some (c, args) }
    else ({ p with pending := none }).perform c args

/-- A command byte: the next argument of a pending command, or a new command (R215). -/
def Panel.commandByte (p : Panel) (b : Byte) : Observer :=
  match p.pending with
  | some (c, args) => p.collect c (args ++ [b])
  | none => p.collect b []

/-- A control byte: Co is bit 7, D/C# is bit 6, and bits 5:0 must be zero (R77, R212). -/
def Panel.controlByte (p : Panel) (x : Byte) : Observer :=
  if x.extractLsb' 0 6 = 0#6 then
    .known { p with parse := if x.getLsbD 7 then .one (x.getLsbD 6) else .rest (x.getLsbD 6) }
  else .unknown

/-- A payload byte after its control byte: display data or a command byte (R212). -/
def Panel.kindByte (p : Panel) (dc : Bool) (b : Byte) : Observer :=
  if dc then p.dataByte b else p.commandByte b

/-- An acknowledged payload byte of a transaction the observer reads (R212). -/
def Panel.payloadByte (p : Panel) (b : Byte) : Observer :=
  match p.parse with
  | .outside => .known p
  | .ignored => .known p
  | .address => .known p
  | .control => p.controlByte b
  | .one dc => ({ p with parse := .control }).kindByte dc b
  | .rest dc => p.kindByte dc b

/-- Whether the observer reads the current transaction (R210). -/
def PanelParse.reading : PanelParse → Bool
  | .outside => false
  | .ignored => false
  | .address => false
  | .control => true
  | .one _ => true
  | .rest _ => true

/-- One bus event of a known observer (R210, log 14): a transaction runs from a START to the next STOP, and its first ADDR
says whether the observer reads it. -/
def Panel.event (p : Panel) (e : BusEvent) : Observer :=
  match e with
  | .start => .known { p with parse := if p.parse = .outside then .address else p.parse }
  | .restart => .known p
  | .stop => .known { p with parse := .outside }
  | .addr a rw answer =>
    .known { p with parse :=
      if p.parse = .address then (if a = targetAddr ∧ rw = false ∧ answer = .ack then .control else .ignored)
      else p.parse }
  | .data b answer =>
    if p.parse.reading then
      match answer with
      | .ack => p.payloadByte b
      | .nack => .unknown
    else .known p

/-- One bus event: an unknown observer stays unknown (R216). -/
def Observer.event (o : Observer) (e : BusEvent) : Observer :=
  match o with
  | .known p => p.event e
  | .unknown => .unknown

/-- The observer after a trace, from a given observer state (R210). -/
def observeFrom (o : Observer) (trace : List BusEvent) : Observer := trace.foldl Observer.event o

/-- The observer after a trace, from panel reset (R210, R211). -/
def observe (trace : List BusEvent) : Observer := observeFrom Observer.reset trace

/-- The observer's view of the panel in a state of the machine. -/
def State.panel (s : State) : Observer := observe s.trace

/-- R211's `known`. -/
def Observer.isKnown : Observer → Bool
  | .known _ => true
  | .unknown => false

/-- What the observer says of a field of the panel; none when it is unknown and says nothing (R216, log 15). -/
def Observer.says {α : Type} (o : Observer) (field : Panel → α) : Option α :=
  match o with
  | .known p => some (field p)
  | .unknown => none

/-- What the observer says of a display RAM byte; none when it says nothing: unknown (R216), or the byte is ⊥ (R211, R213,
log 15). -/
def Observer.ramByte (o : Observer) (page col : Nat) : Option Byte :=
  match o with
  | .known p => readByte p.ram (ramAddress page col)
  | .unknown => none

/-- What the observer says of the display being on (R216, R221). -/
def Observer.displayState (o : Observer) : Option Bool := o.says Panel.displayOn

/-- The pixel at column `x` and row `y`: bit `y mod 8` of the byte of page `y div 8` (R213). -/
def Observer.pixel (o : Observer) (x y : Nat) : Option Bool :=
  (o.ramByte (y / 8) x).map (fun b => b.getLsbD (y % 8))

end Sys2Proof.Machine
end

