-- ==== Sys2Proof/Safety.lean ====
section
/-! DEFINITION. What claims about this machine are stated in: running and ended runs (R39, R171), the premises of R65,
R113 and R116, transactions on the bus, and the invariants of the machine. -/

namespace Sys2Proof.Machine

/-- No fault and no refusal is recorded (R39). -/
def State.running (s : State) : Prop := s.fault = none ∧ s.refused = none

/-- The end of a run (R171): CALLER has no statement left, SEQ is idle, and nothing is recorded. -/
def State.ended (s : State) : Prop := s.program = .done ∧ s.pos = .idle ∧ s.running

/-- The premise of R142 and R172: phase READY, the controller enabled, and nothing in the FIFO or on the bus. -/
structure State.Quiet (s : State) : Prop where
  running : s.running
  ready : s.phase = .ready
  enabled : s.enabled = true
  fifo : s.fifo = []
  bus : s.bus = .idle
  held : s.held = false
  txAbort : s.txAbort = false

/-- `T(p)` for slave `a`: the events of one acknowledged transaction with the payload `p`; none for an empty payload
(R142). -/
def transactionEvents (a : BitVec 7) (payload : List Byte) : List BusEvent :=
  if payload = [] then []
  else [.start, .addr a false .ack] ++ payload.map (fun b => .data b .ack) ++ [.stop]

/-- The events of several transactions in order. -/
def transactionsEvents (a : BitVec 7) (payloads : List (List Byte)) : List BusEvent :=
  payloads.flatMap (transactionEvents a)

/-- The bytes a trace carries, acknowledged or not, in bus order (R117). -/
def dataBytes (trace : List BusEvent) : List Byte :=
  trace.filterMap fun e =>
    match e with
    | .data b _ => some b
    | .start | .restart | .stop | .addr _ _ _ => none

/-- The bytes waiting in a FIFO, oldest first (R117). -/
def fifoBytes (q : List Entry) : List Byte := q.map (fun e => e.dat)

/-- A choice that offers the step to CTRL and answers ACK. -/
def eagerAck : Choice := { agent := .ctrl, answer := .ack, nack := .hold }

/-- The eager schedule of the test vectors for `n` steps: CTRL steps while it has a step, the oracle answers ACK (R116,
`SlaveAcks` of R113). -/
def eagerScript (n : Nat) : List Choice := List.replicate n eagerAck

/-- The first `n` choices are listed and none of them answers NACK: the safety half of `SlaveAcks` (R113). -/
def noNackFor (n : Nat) (script : List Choice) : Prop :=
  n ≤ script.length ∧ ∀ c ∈ script.take n, c.answer ≠ .nack

/-- The next `n` choices are listed and all of them answer STALL (R115). -/
def stallFor (n : Nat) (script : List Choice) : Prop :=
  n ≤ script.length ∧ ∀ c ∈ script.take n, c.answer = .stall

/-- The steps an eager run spends on one transfer once it is entered: two accesses a byte, one CTRL step a byte and one
for the START, and the final poll; the poll alone for an empty one. -/
def eagerSteps (payload : List Byte) : Nat :=
  if payload = [] then 1 else 3 * payload.length + 2

/-- `n` steps, stopping at the first fault or refusal. -/
def runSteps : Nat → State → Result
  | 0, s => .next s
  | n + 1, s =>
    match step s with
    | .next t => runSteps n t
    | .fault f => .fault f
    | .refused q => .refused q

/-- An infinite run (R10, R64). -/
def IsRun (r : Nat → State) : Prop := ∀ n, step (r n) = .next (r (n + 1))

/-- Weak fairness of an agent, given when it has a step (R116). -/
def WeaklyFair (r : Nat → State) (a : Agent) (enabled : State → Bool) : Prop :=
  ∀ n, (∀ m, n ≤ m → enabled (r m) = true) → ∃ m, n ≤ m ∧ (r m).stepper = some a

/-- Fairness of the thread of CALLER and SEQ and of CTRL (R116, log 24). -/
def FairRun (r : Nat → State) : Prop :=
  WeaklyFair r .thread State.threadEnabled ∧ WeaklyFair r .ctrl State.ctrlEnabled

/-- `SlaveAcks` (R113): no draw answers NACK, and draws do not answer STALL for ever. -/
def SlaveAcks (r : Nat → State) : Prop :=
  (∀ n, (r n).stepper = some .ctrl → (r n).choice.answer ≠ .nack) ∧
  ∀ n, (∀ k, n ≤ k → ∃ m, k ≤ m ∧ (r m).stepper = some .ctrl) →
    ∃ m, n ≤ m ∧ (r m).stepper = some .ctrl ∧ (r m).choice.answer ≠ .stall

/-- The data-framed bytes of payloads: those after the control byte 0x40 in a transfer that starts with it (R173). -/
def dataFramedBytes (payloads : List (List Byte)) : List Byte :=
  payloads.flatMap fun p =>
    match p with
    | [] => []
    | c :: rest => if c = 0x40#8 then rest else []

/-- Where a trace stands in the form START, address, bytes, STOP: between transactions, before the ADDR of a START or of a
RESTART, inside a transaction addressed to a slave, or outside that form. -/
inductive TraceForm where
  | closed
  | startAddr
  | restartAddr (a : BitVec 7)
  | opened (a : BitVec 7)
  | malformed
  deriving DecidableEq, Repr

/-- One event of that form: every address of a transaction is the same write address (R118). -/
def TraceForm.next (f : TraceForm) (e : BusEvent) : TraceForm :=
  match f, e with
  | .closed, .start => .startAddr
  | .startAddr, .addr a false _ => .opened a
  | .opened a, .data _ _ => .opened a
  | .opened a, .restart => .restartAddr a
  | .restartAddr a, .addr b false _ => if a = b then .opened a else .malformed
  | .opened _, .stop => .closed
  | _, _ => .malformed

/-- The form of a whole trace. -/
def traceForm (trace : List BusEvent) : TraceForm := trace.foldl TraceForm.next .closed

/-- SEQ stands at a point of its operation, or in a raw program with an access left (R22, R88). -/
def State.posOk (s : State) : Prop :=
  match s.pos with
  | .idle => True
  | .at op k => accessAt s.params op k ≠ none
  | .raw accesses => accesses ≠ []

/-- The invariant of the controller and its registers, raw programs included. -/
structure State.Inv (s : State) : Prop where
  /-- The FIFO holds at most TX_FIFO_DEPTH entries (R31). -/
  fifoBound : s.fifo.length ≤ s.params.txFifoDepth
  /-- Nothing is in progress while disabled (R104, R106). -/
  disabledQuiet : s.enabled = false → s.fifo = [] ∧ s.bus = .idle ∧ s.held = false
  /-- After an abort the FIFO is empty and the bus idle (R34, R114). -/
  abortQuiet : s.txAbort = true → s.fifo = [] ∧ s.bus = .idle ∧ s.held = false
  /-- A held controller holds an open transaction (R114). -/
  heldOpen : s.held = true → s.bus = .active
  /-- IC_CON holds an admitted value with bit 10 zero (R25). -/
  conOk : conAdmitted s.icCon = true ∧ s.icCon.getLsbD 10 = false
  /-- IC_TAR holds an admitted value (R26). -/
  tarOk : tarAdmitted s.icTar = true
  /-- IC_ENABLE holds 0 or 1 (R28). -/
  enableOk : enableAdmitted s.icEnable = true
  /-- A RESTART flag waits only while restarts are enabled (R27). -/
  restartOk : ∀ e ∈ s.fifo, e.restart = true → conRestartEn s.icCon = true
  /-- The trace is made of transactions, the last one open exactly while the bus is active, and addressed to IC_TAR[6:0]
  (R33, R118). -/
  traceOk : traceForm s.trace = (match s.bus with | .idle => .closed | .active => .opened s.tarAddr)

/-- A program with no raw statement. -/
def Program.rawFree : Program → Bool
  | .done => true
  | .request _ _ rest => rest.rawFree
  | .repeatN _ body rest => body.rawFree && rest.rawFree
  | .forever body rest => body.rawFree && rest.rawFree
  | .raw _ _ => false

/-- What holds of SEQ when CALLER issues operations only (R143, R144): in phase UNINIT nothing but INITIALIZE is under way
and the controller is as at launch; in phase READY the controller is enabled and INITIALIZE is over; a push that is due
has room. -/
structure State.OperationInv (s : State) : Prop where
  programRawFree : s.program.rawFree = true
  posRawFree : ∀ accesses, s.pos ≠ .raw accesses
  uninit : s.phase = .uninit → s.fifo = [] ∧ s.bus = .idle ∧ s.held = false ∧ s.txAbort = false ∧
    ∀ op k, s.pos = .at op k → ∃ spd a7 n, op = .initializeOp spd a7 ∧ k = .cfg n ∧ speedAdmitted spd = true ∧
      (n = 1 ∨ n = 2 → s.enabled = false)
  ready : s.phase = .ready → s.enabled = true ∧ ∀ op k n, s.pos = .at op k → k ≠ .cfg n
  pushRoom : ∀ op j i, s.pos = .at op (.push j i) → s.fifo.length < s.params.txFifoDepth

/-- The ranges of the panel's columns and pages, the pointers inside a proper window, and the form of its display RAM
(R211). -/
structure Panel.Ok (p : Panel) : Prop where
  colStart : p.colStart < panelColumns
  colEnd : p.colEnd < panelColumns
  col : p.col < panelColumns
  pageStart : p.pageStart < panelPages
  pageEnd : p.pageEnd < panelPages
  page : p.page < panelPages
  colWindow : p.colStart ≤ p.colEnd → p.col ≤ p.colEnd
  pageWindow : p.pageStart ≤ p.pageEnd → p.page ≤ p.pageEnd
  ram : memoryOk p.ram = true
  cells : ∀ c ∈ p.ram, c.1 < panelColumns * panelPages

/-- The ranges hold of what a known observer says; an unknown one says nothing (R216). -/
def Observer.Ok (o : Observer) : Prop := ∀ p, o = .known p → p.Ok

/-- The first address of these events is not an acknowledged write address of 0x3C, or they have no address (R210). -/
def addressedElsewhere : List BusEvent → Prop
  | [] => True
  | .addr a rw answer :: _ => ¬ (a = targetAddr ∧ rw = false ∧ answer = .ack)
  | _ :: rest => addressedElsewhere rest

end Sys2Proof.Machine
end

