-- ==== Sys2Proof/WellFormed.lean ====
section
/-! DEFINITION. Which instructions carry an admitted value (R82): the checks that read the instruction alone. The one
value-level check that also reads a register (RESTART = 1 needs IC_RESTART_EN, R104) is the machine's. -/

namespace Sys2Proof

/-- IC_CON words of the admitted set of R25: MASTER_MODE 1, SPEED 1 or 2, 7-bit master addressing, slave disabled,
reserved bits zero. -/
def Instr.conWordOk (v : Word) : Bool :=
  v.getLsbD 0 && (v.extractLsb' 1 2 == 1#2 || v.extractLsb' 1 2 == 2#2) && !v.getLsbD 4 && v.getLsbD 6
    && v.extractLsb' 11 21 == 0#21

/-- IC_TAR words of the admitted set of R26: a 7-bit address, SPECIAL 0, reserved bits zero. -/
def Instr.tarWordOk (v : Word) : Bool :=
  decide ((v.extractLsb' 0 10).toNat ≤ 0x7F) && !v.getLsbD 11 && v.extractLsb' 12 20 == 0#20

/-- IC_DATA_CMD words of the admitted set of R27: CMD 0 and bits 31:11 zero. -/
def Instr.dataCmdWordOk (v : Word) : Bool :=
  !v.getLsbD 8 && v.extractLsb' 11 21 == 0#21

/-- IC_ENABLE words of the admitted set of R28: bits 31:1 zero. -/
def Instr.enableWordOk (v : Word) : Bool :=
  v.extractLsb' 1 31 == 0#31

/-- The value-level admission of R82, instruction by instruction. -/
def Instr.wellFormed : Instr → Bool
  | .ldrIcCon => true
  | .strIcCon v => Instr.conWordOk v
  | .ldrIcTar => true
  | .strIcTar v => Instr.tarWordOk v
  | .strIcDataCmd v => Instr.dataCmdWordOk v
  | .ldrIcEnable => true
  | .strIcEnable v => Instr.enableWordOk v
  | .ldrIcStatus => true
  | .initializeOp spd _ => spd == 1#2 || spd == 2#2
  | .writeBuffer _ => true
  | .sendCommand _ => true
  | .sendCommandList _ => true
  | .sendFramebuffer f => f.length == 1024
  | .initSequence => true

end Sys2Proof
end

