-- ==== Sys2Proof/Certificates/Slice0/Obligations.lean ====
section
/-! DEFINITION. The statements for the provers, each formalising numbered rules of the spec. -/

open Sys2Proof Sys2Proof.Machine

/-! ### Encoding -/

/-- Words of the spec, decoded: the eight selectors of R78, and OP words of the vectors L2-E1, L2-E2 and L2-P. -/
def Obligations.WordsOfTheSpecDecodeToTheirInstructions : Prop :=
  ∀ (w : Word) (l : List Byte),
    decode (.ra 0x000#9 w) = .ok .ldrIcCon ∧ decode (.ra 0x100#9 w) = .ok (.strIcCon w) ∧
    decode (.ra 0x004#9 w) = .ok .ldrIcTar ∧ decode (.ra 0x104#9 w) = .ok (.strIcTar w) ∧
    decode (.ra 0x110#9 w) = .ok (.strIcDataCmd w) ∧ decode (.ra 0x06C#9 w) = .ok .ldrIcEnable ∧
    decode (.ra 0x16C#9 w) = .ok (.strIcEnable w) ∧ decode (.ra 0x070#9 w) = .ok .ldrIcStatus ∧
    decode (.op 0x0790#16 l) = .ok (.initializeOp 2#2 0x3C#7) ∧ decode (.op 0x0FF0#16 l) = .ok (.initializeOp 2#2 0x7F#7) ∧
    decode (.op 0x0572#16 l) = .ok (.sendCommand 0xAE#8) ∧ decode (.op 0x07FA#16 l) = .ok (.sendCommand 0xFF#8) ∧
    decode (.op 0x0001#16 l) = .ok (.writeBuffer l) ∧ decode (.op 0x0003#16 l) = .ok (.sendCommandList l) ∧
    decode (.op 0x0004#16 l) = .ok (.sendFramebuffer l) ∧ decode (.op 0x0005#16 l) = .ok .initSequence ∧
    decode (.op 0x1790#16 l) = .error .reservedOp ∧ decode (.op 0x0802#16 l) = .error .reservedOp ∧
    decode (.op 0x0009#16 l) = .error .reservedOp ∧ decode (.op 0x0006#16 l) = .error .reservedOp

/-- R80: every other selector is refused, LDR IC_DATA_CMD by its own reason. -/
def Obligations.OtherSelectorsAreRefused : Prop :=
  ∀ (sel : BitVec 9) (w : Word),
    sel ∉ [0x000#9, 0x100#9, 0x004#9, 0x104#9, 0x110#9, 0x06C#9, 0x16C#9, 0x070#9] →
    decode (.ra sel w) = .error (if sel = 0x010#9 then .readback else .unmodelled)

/-- R79 and R81: a word decodes exactly when a row of the OP opcode map fits it, and is Q_RESERVED_OP otherwise. -/
def Obligations.OperationWordsDecodeExactlyByTheirRows : Prop :=
  ∀ (w : BitVec 16) (l : List Byte),
    ((∃ r ∈ opRows, r.fits w.toNat = true) → ∃ i, decode (.op w l) = .ok i) ∧
    ((∀ r ∈ opRows, r.fits w.toNat = false) → decode (.op w l) = .error .reservedOp)

/-- No word fits two rows of one opcode map. -/
def Obligations.OpcodeRowsNeverOverlap : Prop :=
  ∀ rows ∈ [raRows, opRows], rows.Pairwise (fun r q => ∀ w : Nat, ¬ (r.fits w = true ∧ q.fits w = true))

/-- Decoding an encoded instruction gives it back, at every operand. -/
def Obligations.DecodeOfEncodeIsTheInstruction : Prop :=
  ∀ i : Instr, decode (encode i) = .ok i

/-- Encoding a decoded request gives it back, when its unused operand slot is empty. -/
def Obligations.EncodeOfDecodeIsTheRequest : Prop :=
  ∀ (e : Encoded) (i : Instr), e.canonical = true → decode e = .ok i → encode i = e

/-- R30: an access of another width, at an offset outside the map or misaligned is Q_UNMODELLED. The five offsets are
R24's. -/
def Obligations.AccessesOutsideTheMapAreRefused : Prop :=
  ∀ (base addr wdata : Word) (bytes : Nat) (write : Bool),
    (bytes ≠ 4 ∨ (addr - base).toNat ∉ [0x00, 0x04, 0x10, 0x6C, 0x70]) →
    decodeAddress base addr bytes write wdata = .error .unmodelled

/-! ### How a step runs an instruction -/

/-- A request at the head of CALLER's program runs as the instruction it decodes to, or is refused by its reason. -/
def Obligations.StepRunsTheOfferedOperation : Prop :=
  ∀ (s : State) (w : BitVec 16) (l : List Byte) (rest : Program),
    s.stepper = some .thread → s.pos = .idle → s.program = .request w l rest →
    (∀ i, decode (.op w l) = .ok i → step s = recordMark s.draw (exec i (s.draw.setProgram rest))) ∧
    (∀ e, decode (.op w l) = .error e → step s = .next { s.draw with refused := some (refusalOfReject e) })

/-- At AT(op, k) a step of the thread runs the access of that point, then moves to the next point. -/
def Obligations.StepRunsTheAccessOfThePoint : Prop :=
  ∀ (s : State) (op i : Instr) (k : Point),
    s.stepper = some .thread → s.pos = .at op k → accessAt s.params op k = some i →
    step s = recordMark s.draw (thenDo (exec i s.draw) (advance op k))

/-- R88: a raw program runs its accesses in order, one a step; a poll repeats until its condition holds. -/
def Obligations.StepRunsTheRawAccess : Prop :=
  ∀ (s : State) (a : Access) (rest : List Access),
    s.stepper = some .thread → s.pos = .raw (a :: rest) →
    (∀ i, decodeAccess s.params.i2cBase a = .ok i →
      step s = recordMark s.draw (thenDo (exec i s.draw) (fun t =>
        if (a = .pollTfnf ∧ t.rdata.getLsbD 1 = false) ∨ (a = .pollIdle ∧ t.rdata.getLsbD 0 = true) then t
        else { t with pos := if rest = [] then .idle else .raw rest }))) ∧
    (∀ e, decodeAccess s.params.i2cBase a = .error e →
      step s = .next { s.draw with refused := some (refusalOfReject e) })

/-- A table word is run by the very next step (the model's layout of table words, log 8). -/
def Obligations.StepRunsTheFetchedTableWord : Prop :=
  ∀ (s : State) (nbits w : Nat) (i : Instr), decodeTableWord nbits w = some i →
    (i.isAccess = true → step (s.withFetchWord nbits w) =
      recordMark (s.withFetchWord nbits w).draw
        (thenDo (exec i (s.withFetchWord nbits w).draw) (fun t => t.setPos .idle))) ∧
    (i.isAccess = false → step (s.withFetchWord nbits w) =
      recordMark (s.withFetchWord nbits w).draw
        (exec i { s with pos := .idle, fault := none, refused := none }))

/-- R64: a running machine's step is one step of one enabled agent, or nothing when none is enabled. -/
def Obligations.StepIsOneStepOfOneEnabledAgent : Prop :=
  ∀ s : State, s.running →
    (s.ctrlEnabled = true ∧ step s = .next (ctrlStep s.choice.answer s.choice.nack s.draw)) ∨
    (s.threadEnabled = true ∧ step s = recordMark s.draw (threadStep s.draw)) ∨
    (s.ctrlEnabled = false ∧ s.threadEnabled = false ∧ step s = .next s.draw)

/-- R39: no step is taken once a mark is set. -/
def Obligations.StoppedRunTakesNoStep : Prop :=
  ∀ s : State,
    (∀ f, s.fault = some f → ∀ t, step s ≠ .next t) ∧ (∀ q, s.refused = some q → ∀ t, step s ≠ .next t)

/-- R205: the step that raises or refuses changes nothing but the mark. -/
def Obligations.FaultingStepHasNoOtherEffect : Prop :=
  ∀ s t : State, step s = .next t →
    (∀ f, t.fault = some f → t = { s.draw with fault := some f }) ∧
    (∀ q, t.refused = some q → t = { s.draw with refused := some q })

/-! ### Register accesses -/

/-- R100, R102, R105: the reads. -/
def Obligations.ReadsReturnTheStoredRegister : Prop :=
  ∀ (s : State) (w : Word),
    decode (.ra 0x000#9 w) = .ok .ldrIcCon ∧
    exec .ldrIcCon s = .next { s with rdata := s.icCon &&& ~~~(1#32 <<< 10) } ∧
    decode (.ra 0x004#9 w) = .ok .ldrIcTar ∧ exec .ldrIcTar s = .next { s with rdata := s.icTar } ∧
    decode (.ra 0x06C#9 w) = .ok .ldrIcEnable ∧ exec .ldrIcEnable s = .next { s with rdata := s.icEnable }

/-- R29, R107: the status read and every bit of its value. -/
def Obligations.StatusReadReturnsTheStatusBits : Prop :=
  ∀ (s : State) (w : Word), decode (.ra 0x070#9 w) = .ok .ldrIcStatus ∧
    ∃ v : Word, exec .ldrIcStatus s = .next { s with rdata := v } ∧
      (v.getLsbD 0 = true ↔ s.bus = .active ∨ s.held = true ∨
        (s.icEnable.getLsbD 0 = true ∧ s.txAbort = false ∧ s.fifo ≠ [])) ∧
      (v.getLsbD 1 = true ↔ s.fifo.length < s.params.txFifoDepth) ∧
      (v.getLsbD 2 = true ↔ s.fifo = []) ∧
      v.getLsbD 5 = v.getLsbD 0 ∧
      ∀ n, n ∉ [0, 1, 2, 5] → v.getLsbD n = false

/-- R101: STR IC_CON. -/
def Obligations.StrIcConFollowsItsRule : Prop :=
  ∀ (v : Word) (s : State),
    decode (.ra 0x100#9 v) = .ok (.strIcCon v) ∧
    ((v.extractLsb' 11 21 ≠ 0 ∨ v.getLsbD 0 = false ∨ v.extractLsb' 1 2 ∉ [1#2, 2#2] ∨ v.getLsbD 4 = true ∨
        v.getLsbD 6 = false) → exec (.strIcCon v) s = .refused .qConField) ∧
    (v.extractLsb' 11 21 = 0 → v.getLsbD 0 = true → v.extractLsb' 1 2 ∈ [1#2, 2#2] → v.getLsbD 4 = false →
      v.getLsbD 6 = true →
      (s.icEnable.getLsbD 0 = true → exec (.strIcCon v) s = .fault .fCfgWhileEnabled) ∧
      (s.icEnable.getLsbD 0 = false → exec (.strIcCon v) s = .next { s with icCon := v &&& ~~~(1#32 <<< 10) }))

/-- R103: STR IC_TAR. -/
def Obligations.StrIcTarFollowsItsRule : Prop :=
  ∀ (v : Word) (s : State),
    decode (.ra 0x104#9 v) = .ok (.strIcTar v) ∧
    ((v.extractLsb' 12 20 ≠ 0 ∨ v.getLsbD 11 = true ∨ 0x7F < (v.extractLsb' 0 10).toNat) →
      exec (.strIcTar v) s = .refused .qTarField) ∧
    (v.extractLsb' 12 20 = 0 → v.getLsbD 11 = false → (v.extractLsb' 0 10).toNat ≤ 0x7F →
      (s.icEnable.getLsbD 0 = true → exec (.strIcTar v) s = .fault .fCfgWhileEnabled) ∧
      (s.icEnable.getLsbD 0 = false → exec (.strIcTar v) s = .next { s with icTar := v }))

/-- R104: STR IC_DATA_CMD, check by check in the rule's order, and the flags a push leaves. -/
def Obligations.StrIcDataCmdFollowsItsRule : Prop :=
  ∀ (v : Word) (s : State),
    decode (.ra 0x110#9 v) = .ok (.strIcDataCmd v) ∧
    (v.getLsbD 8 = true → exec (.strIcDataCmd v) s = .refused .qReadback) ∧
    (v.getLsbD 8 = false → v.extractLsb' 11 21 ≠ 0 → exec (.strIcDataCmd v) s = .refused .qReserved) ∧
    (v.getLsbD 8 = false → v.extractLsb' 11 21 = 0 → v.getLsbD 10 = true → s.icCon.getLsbD 5 = false →
      exec (.strIcDataCmd v) s = .refused .qRestartDisabled) ∧
    (v.getLsbD 8 = false → v.extractLsb' 11 21 = 0 → (v.getLsbD 10 = true → s.icCon.getLsbD 5 = true) →
      (s.icEnable.getLsbD 0 = false → exec (.strIcDataCmd v) s = .fault .fPushDisabled) ∧
      (s.icEnable.getLsbD 0 = true → s.txAbort = true → exec (.strIcDataCmd v) s = .next s) ∧
      (s.icEnable.getLsbD 0 = true → s.txAbort = false → s.fifo.length = s.params.txFifoDepth →
        exec (.strIcDataCmd v) s = .fault .fPushFull) ∧
      (s.icEnable.getLsbD 0 = true → s.txAbort = false → s.fifo.length ≠ s.params.txFifoDepth →
        exec (.strIcDataCmd v) s = .next { s with
          fifo := s.fifo ++ [{ dat := v.extractLsb' 0 8, stop := v.getLsbD 9, restart := v.getLsbD 10 }] } ∧
        ∀ t, exec (.strIcDataCmd v) s = .next t → t.icStatus.getLsbD 2 = false ∧ t.icStatus.getLsbD 0 = true ∧
          (t.fifo.length = t.params.txFifoDepth → t.icStatus.getLsbD 1 = false)))

/-- R106: STR IC_ENABLE. -/
def Obligations.StrIcEnableFollowsItsRule : Prop :=
  ∀ (v : Word) (s : State),
    decode (.ra 0x16C#9 v) = .ok (.strIcEnable v) ∧
    (v.extractLsb' 1 31 ≠ 0 → exec (.strIcEnable v) s = .refused .qEnableField) ∧
    (v.extractLsb' 1 31 = 0 → v.getLsbD 0 = false → (s.bus = .active ∨ s.held = true ∨ s.fifo ≠ []) →
      exec (.strIcEnable v) s = .fault .fDisableActive) ∧
    (v.extractLsb' 1 31 = 0 → (v.getLsbD 0 = true ∨ (s.bus = .idle ∧ s.held = false ∧ s.fifo = [])) →
      exec (.strIcEnable v) s = .next { s with icEnable := v })

/-- The frame of the register accesses: a read changes SEQ's read value alone, a register write its register alone, a push
the FIFO alone, whose entries so far stay; the trace and so the panel are unchanged. -/
def Obligations.AccessesLeaveTheRestUnchanged : Prop :=
  ∀ (s t : State) (v : Word),
    (∀ i ∈ [Instr.ldrIcCon, .ldrIcTar, .ldrIcEnable, .ldrIcStatus], exec i s = .next t → t = { s with rdata := t.rdata }) ∧
    (exec (.strIcCon v) s = .next t → t = { s with icCon := t.icCon }) ∧
    (exec (.strIcTar v) s = .next t → t = { s with icTar := t.icTar }) ∧
    (exec (.strIcEnable v) s = .next t → t = { s with icEnable := t.icEnable }) ∧
    (exec (.strIcDataCmd v) s = .next t → t = { s with fifo := t.fifo } ∧ s.fifo <+: t.fifo) ∧
    (∀ i : Instr, i.isAccess = true → exec i s = .next t → t.panel = s.panel)

/-! ### The transaction engine and the protocol layer -/

/-- R140: what INITIALIZE checks, in order, and where it starts. -/
def Obligations.InitializeIsTakenAfterItsChecks : Prop :=
  ∀ (spd : BitVec 2) (a7 : BitVec 7) (s : State),
    (spd ∉ [1#2, 2#2] → exec (.initializeOp spd a7) s = .refused .qSpeed) ∧
    (spd ∈ [1#2, 2#2] → s.phase = .ready → exec (.initializeOp spd a7) s = .fault .fReinit) ∧
    (spd ∈ [1#2, 2#2] → s.phase = .uninit →
      exec (.initializeOp spd a7) s = .next { s with pos := .at (.initializeOp spd a7) (.cfg 0) })

/-- R140: the whole of INITIALIZE under the launch premise, whatever the free choices are: after the step that takes it and
its four accesses the registers hold the configuration, the phase is READY and no bus event has been emitted. -/
def Obligations.InitializeConfiguresTheController : Prop :=
  ∀ (s : State) (spd : BitVec 2) (a7 : BitVec 7) (l : List Byte) (rest : Program),
    s.running → s.pos = .idle → s.phase = .uninit → s.fifo = [] → s.bus = .idle → s.held = false → spd ∈ [1#2, 2#2] →
    s.program = .request ((spd.setWidth 16 <<< 3) ||| (a7.setWidth 16 <<< 5)) l rest →
    ∃ script tick, runSteps 5 s = .next { s with
      phase := .ready, icCon := if spd = 2#2 then 0x00000065#32 else 0x00000063#32, icTar := a7.setWidth 32,
      icEnable := 0x00000001#32, program := rest, script := script, tick := tick }

/-- R141: taking WRITE_BUFFER. -/
def Obligations.WriteBufferIsTakenWhenReady : Prop :=
  ∀ (s : State) (b : Byte) (bytes : List Byte),
    (s.phase = .uninit → exec (.writeBuffer bytes) s = .fault .fNotInitialized) ∧
    (s.phase = .ready → exec (.writeBuffer []) s = .next { s with pos := .at (.writeBuffer []) (.pollIdle 0) }) ∧
    (s.phase = .ready → exec (.writeBuffer (b :: bytes)) s =
      .next { s with pos := .at (.writeBuffer (b :: bytes)) (.pollTfnf 0 0) })

/-- R161, R162, R163, R167: taking the protocol operations. -/
def Obligations.ProtocolOperationsAreTakenWhenReady : Prop :=
  ∀ (s : State) (b : Byte) (l f : List Byte),
    (s.phase = .ready → exec (.sendCommand b) s = .next { s with pos := .at (.sendCommand b) (.pollTfnf 0 0) }) ∧
    (s.phase = .ready → l ≠ [] →
      exec (.sendCommandList l) s = .next { s with pos := .at (.sendCommandList l) (.pollTfnf 0 0) }) ∧
    exec (.sendCommandList []) s = .next { s with pos := .idle } ∧
    (s.phase = .ready → s.params.initTable ≠ [] →
      exec .initSequence s = .next { s with pos := .at .initSequence (.pollTfnf 0 0) }) ∧
    (s.phase = .ready → s.params.initTable = [] →
      exec .initSequence s = .next { s with initDone := true, pos := .idle }) ∧
    (s.phase = .ready → f.length = 1024 →
      exec (.sendFramebuffer f) s = .next { s with pos := .at (.sendFramebuffer f) (.pollTfnf 0 0) })

/-- R161, R162, R163, R167: where the protocol operations stop. -/
def Obligations.ProtocolOperationsStopByRule : Prop :=
  ∀ (s : State) (b : Byte) (l f : List Byte),
    (s.phase = .uninit → exec (.sendCommand b) s = .fault .fNotInitialized) ∧
    (s.phase = .uninit → l ≠ [] → exec (.sendCommandList l) s = .fault .fNotInitialized) ∧
    (s.phase = .uninit → s.params.initTable ≠ [] → exec .initSequence s = .fault .fNotInitialized) ∧
    (f.length ≠ 1024 → exec (.sendFramebuffer f) s = .refused .qFbLength) ∧
    (s.phase = .uninit → f.length = 1024 → exec (.sendFramebuffer f) s = .fault .fNotInitialized)

/-- The frame of taking an operation: SEQ's position, and `init_done` where INIT_SEQUENCE has nothing to send. -/
def Obligations.TakingAnOperationLeavesTheRestUnchanged : Prop :=
  ∀ (i : Instr) (s t : State), i.isAccess = false → exec i s = .next t →
    t = { s with pos := t.pos, initDone := t.initDone } ∧
    (t.initDone ≠ s.initDone → i = .initSequence ∧ s.params.initTable = [] ∧ t.initDone = true)

/-- R141, R72, R246: the word of every push: the byte of that index, RESTART 0, STOP on the last byte of the transfer and
on no other. -/
def Obligations.PushCarriesStopOnTheLastByteOnly : Prop :=
  ∀ (p : Params) (op : Instr) (j i : Nat) (bytes : List Byte) (b : Byte),
    (transfers p op)[j]? = some bytes → bytes[i]? = some b →
    accessAt p op (.push j i) =
      some (.strIcDataCmd (if i + 1 = bytes.length then b.setWidth 32 ||| 0x200#32 else b.setWidth 32))

/-- R160 and R87: the transfers of the protocol operations, and that each starts with 0x80 or 0x40 and carries at least one
byte more. -/
def Obligations.ProtocolTransfersAreFramed : Prop :=
  ∀ (p : Params) (b : Byte) (l f : List Byte),
    transfers p (.sendCommand b) = [[0x80#8, b]] ∧
    transfers p (.sendCommandList l) = l.map (fun c => [0x80#8, c]) ∧
    transfers p .initSequence = p.initTable.map (fun c => [0x80#8, c]) ∧
    (f.length = 1024 → ∀ op ∈ [Instr.sendCommand b, .sendCommandList l, .initSequence, .sendFramebuffer f],
      ∀ bytes ∈ transfers p op, ∃ c d rest, bytes = c :: d :: rest ∧ (c = 0x80#8 ∨ c = 0x40#8))

/-- R166, R167, R173: the transfers of SEND_FRAMEBUFFER: the six of the address table, then the data; their counts, and the
data-framed bytes. -/
def Obligations.FramebufferTransfersCarryTheFrame : Prop :=
  ∀ (p : Params) (f : List Byte), f.length = 1024 →
    ∃ data, transfers p (.sendFramebuffer f) =
        [[0x80#8, 0x21#8], [0x80#8, 0x00#8], [0x80#8, 0x7F#8], [0x80#8, 0x22#8], [0x80#8, 0x00#8], [0x80#8, 0x07#8]]
          ++ data ∧
      (∀ d ∈ data, d.head? = some 0x40#8) ∧
      dataFramedBytes (transfers p (.sendFramebuffer f)) = f ∧
      (transfers p (.sendFramebuffer f)).length = (if p.fbBurst then 7 else 1030) ∧
      ((transfers p (.sendFramebuffer f)).map List.length).sum = (if p.fbBurst then 1037 else 2060)

/-- R141, R148: a poll goes on exactly when its condition holds, and stays at its own read otherwise. After the poll for
idle SEQ goes to the first point of the next transfer, or completes the operation after the last one (R22, R23). -/
def Obligations.PollsRepeatUntilTheirConditionHolds : Prop :=
  ∀ (s : State) (op : Instr) (j i : Nat), s.stepper = some .thread →
    (s.pos = .at op (.pollTfnf j i) → accessAt s.params op (.pollTfnf j i) ≠ none →
      step s = .next { s.draw with
        rdata := s.icStatus, pos := if s.fifo.length < s.params.txFifoDepth then .at op (.push j i) else s.pos }) ∧
    (s.pos = .at op (.pollIdle j) → accessAt s.params op (.pollIdle j) ≠ none →
      (s.activity = true → step s = .next { s.draw with rdata := s.icStatus }) ∧
      (s.activity = false →
        (∀ b bytes, (transfers s.params op)[j + 1]? = some (b :: bytes) →
          step s = .next { s.draw with rdata := s.icStatus, pos := .at op (.pollTfnf (j + 1) 0) }) ∧
        ((transfers s.params op)[j + 1]? = some [] →
          step s = .next { s.draw with rdata := s.icStatus, pos := .at op (.pollIdle (j + 1)) }) ∧
        ((transfers s.params op)[j + 1]? = none →
          step s = .next { s.draw with
            rdata := s.icStatus, pos := .idle, initDone := s.initDone || decide (op = .initSequence) })))

/-- R142, R172, R173, safety: if no draw answers NACK, every operation but INITIALIZE returns, if it does, with exactly the
transactions of its WRITE_BUFFERs on the bus, in order, under every interleaving. -/
def Obligations.WriteBufferPutsOneTransactionOnTheBus : Prop :=
  ∀ (s t : State) (w : BitVec 16) (l : List Byte) (op : Instr) (rest : Program) (n : Nat),
    s.Quiet → s.pos = .idle → s.program = .request w l rest → decode (.op w l) = .ok op →
    (∀ spd a7, op ≠ .initializeOp spd a7) → (∀ f, op = .sendFramebuffer f → f.length = 1024) →
    noNackFor n s.script → 0 < n → runSteps n s = .next t → t.pos = .idle →
    (∀ m u, 0 < m → m < n → runSteps m s = .next u → u.pos ≠ .idle) →
    t.trace = s.trace ++ transactionsEvents s.tarAddr (transfers s.params op) ∧ t.fifo = [] ∧ t.bus = .idle ∧
      t.held = false ∧ t.txAbort = false ∧ t.program = rest ∧ t.initDone = (s.initDone || decide (op = .initSequence)) ∧
      t.running

/-- R142, R172, R173 with R116: in every fair run under `SlaveAcks` every operation but INITIALIZE completes, with exactly
the transactions of its WRITE_BUFFERs on the bus, in order. The premises name what R142 takes for granted: the controller
enabled (R143), fairness (R116, R256; log 24), a FIFO with room for an entry (R6). -/
def Obligations.WriteBufferCompletesInEveryFairRun : Prop :=
  ∀ (r : Nat → State) (w : BitVec 16) (l : List Byte) (op : Instr) (rest : Program),
    IsRun r → FairRun r → SlaveAcks r → (r 0).Quiet → 1 ≤ (r 0).params.txFifoDepth → (r 0).pos = .idle →
    (r 0).program = .request w l rest → decode (.op w l) = .ok op →
    (∀ spd a7, op ≠ .initializeOp spd a7) → (∀ f, op = .sendFramebuffer f → f.length = 1024) →
    ∃ n, (r n).pos = .idle ∧ (r n).program = rest ∧ (r n).Quiet ∧
      (r n).trace = (r 0).trace ++ transactionsEvents (r 0).tarAddr (transfers (r 0).params op) ∧
      (r n).initDone = ((r 0).initDone || decide (op = .initSequence))

/-- R142, R172, R173 under the eager schedule: every operation but INITIALIZE completes in a number of steps its transfers
fix, with exactly their transactions on the bus in order. -/
def Obligations.EagerRunCompletesTheOperation : Prop :=
  ∀ (s : State) (w : BitVec 16) (l : List Byte) (op : Instr) (rest : Program) (tail : List Choice),
    s.Quiet → 1 ≤ s.params.txFifoDepth → s.pos = .idle → s.program = .request w l rest → decode (.op w l) = .ok op →
    (∀ spd a7, op ≠ .initializeOp spd a7) → (∀ f, op = .sendFramebuffer f → f.length = 1024) →
    s.script = eagerScript (1 + ((transfers s.params op).map eagerSteps).sum) ++ tail →
    ∃ v, runSteps (1 + ((transfers s.params op).map eagerSteps).sum) s = .next { s with
      trace := s.trace ++ transactionsEvents s.tarAddr (transfers s.params op), program := rest, script := tail,
      initDone := s.initDone || decide (op = .initSequence), rdata := v }

/-- R143: SEQ leaves the poll for idle only with the bus idle, nothing held and the FIFO empty. -/
def Obligations.ReturnImpliesIdle : Prop :=
  ∀ (s t : State) (op : Instr) (j : Nat),
    s.Inv → s.phase = .ready → s.enabled = true → s.pos = .at op (.pollIdle j) → step s = .next t → t.pos ≠ s.pos →
    t.bus = .idle ∧ t.held = false ∧ t.fifo = []

/-- R145 (b), (c): while the controller is held and SEQ is at its poll for idle, no step emits an event, leaves that poll or
ends the hold. -/
def Obligations.HeldControllerBlocksForEver : Prop :=
  ∀ (s t : State) (op : Instr) (j : Nat),
    s.held = true → s.pos = .at op (.pollIdle j) → step s = .next t →
    t.held = true ∧ t.pos = s.pos ∧ t.trace = s.trace ∧ t.running

/-- R145 (a): against a slave that answers STALL at every step WRITE_BUFFER with a byte to send does not return and no
event is emitted, for any number of steps. -/
def Obligations.StalledSlaveBlocksForEver : Prop :=
  ∀ (s t : State) (b : Byte) (bytes : List Byte) (rest : Program) (n : Nat),
    s.Quiet → s.pos = .idle → s.program = .request 0x0001#16 (b :: bytes) rest → stallFor n s.script → 0 < n →
    runSteps n s = .next t → t.pos ≠ .idle ∧ t.trace = s.trace ∧ t.running

/-- R146: after an abort every WRITE_BUFFER discards its pushes and completes with no bus event, and an empty WRITE_BUFFER
does so in any state where ACTIVITY is 0; whatever the free choices are. -/
def Obligations.DiscardedAndEmptyTransfersEmitNothing : Prop :=
  ∀ (s : State) (bytes : List Byte) (rest : Program),
    s.running → s.phase = .ready → s.pos = .idle → s.program = .request 0x0001#16 bytes rest →
    (s.Inv → s.enabled = true → s.txAbort = true → 1 ≤ s.params.txFifoDepth →
      ∃ v script tick, runSteps (2 * bytes.length + 2) s = .next { s with
        program := rest, rdata := v, script := script, tick := tick }) ∧
    (bytes = [] → s.activity = false →
      ∃ script tick, runSteps 2 s = .next { s with
        program := rest, rdata := s.icStatus, script := script, tick := tick })

/-! ### The controller -/

/-- R110: C_START, answer by answer, with the outcomes of R114. -/
def Obligations.CtrlStartOpensATransaction : Prop :=
  ∀ (s : State) (e : Entry) (rest : List Entry), s.stepper = some .ctrl → s.bus = .idle → s.fifo = e :: rest →
    (s.choice.answer = .stall → step s = .next s.draw) ∧
    (s.choice.answer = .ack → step s = .next { s.draw with
      trace := s.trace ++ [.start, .addr (s.icTar.extractLsb' 0 7) false .ack], bus := .active,
      fifo := { e with restart := false } :: rest }) ∧
    (s.choice.answer = .nack → s.choice.nack = .abort → step s = .next { s.draw with
      trace := s.trace ++ [.start, .addr (s.icTar.extractLsb' 0 7) false .nack, .stop], fifo := [], txAbort := true }) ∧
    (s.choice.answer = .nack → s.choice.nack = .hold → step s = .next { s.draw with
      trace := s.trace ++ [.start, .addr (s.icTar.extractLsb' 0 7) false .nack], bus := .active, held := true })

/-- R111: C_BYTE, answer by answer, with the outcomes of R114. -/
def Obligations.CtrlByteSendsTheHead : Prop :=
  ∀ (s : State) (e : Entry) (rest : List Entry), s.stepper = some .ctrl → s.bus = .active → s.fifo = e :: rest →
    (s.choice.answer = .stall → step s = .next s.draw) ∧
    (e.restart = true → s.choice.answer = .ack → step s = .next { s.draw with
      trace := s.trace ++ [.restart, .addr (s.icTar.extractLsb' 0 7) false .ack],
      fifo := { e with restart := false } :: rest }) ∧
    (e.restart = true → s.choice.answer = .nack → s.choice.nack = .abort → step s = .next { s.draw with
      trace := s.trace ++ [.restart, .addr (s.icTar.extractLsb' 0 7) false .nack, .stop], fifo := [], bus := .idle,
      txAbort := true }) ∧
    (e.restart = true → s.choice.answer = .nack → s.choice.nack = .hold → step s = .next { s.draw with
      trace := s.trace ++ [.restart, .addr (s.icTar.extractLsb' 0 7) false .nack], held := true }) ∧
    (e.restart = false → s.choice.answer = .ack → step s = .next { s.draw with
      trace := s.trace ++ (if e.stop then [.data e.dat .ack, .stop] else [.data e.dat .ack]), fifo := rest,
      bus := if e.stop then .idle else .active }) ∧
    (e.restart = false → s.choice.answer = .nack → s.choice.nack = .abort → step s = .next { s.draw with
      trace := s.trace ++ [.data e.dat .nack, .stop], fifo := [], bus := .idle, txAbort := true }) ∧
    (e.restart = false → s.choice.answer = .nack → s.choice.nack = .hold → step s = .next { s.draw with
      trace := s.trace ++ [.data e.dat .nack], fifo := rest, held := true })

/-- When CTRL has a step: it has none when one of R112's conditions holds, and one otherwise, read from R110 and R111
(log 7). -/
def Obligations.CtrlHasAStepExactlyWhen : Prop :=
  ∀ s : State, s.ctrlEnabled = true ↔
    s.icEnable.getLsbD 0 = true ∧ s.fifo ≠ [] ∧ s.held = false ∧ s.txAbort = false ∧ s.fault = none ∧ s.refused = none

/-- R115: a STALL answer changes nothing but the free choice it used up. -/
def Obligations.StallLeavesTheStateUnchanged : Prop :=
  ∀ s : State, s.stepper = some .ctrl → s.choice.answer = .stall → step s = .next s.draw

/-- R117: as long as no draw answers NACK, the bytes on the bus followed by the bytes waiting are the bytes pushed, in push
order: a step appends at most the one byte it pushes. -/
def Obligations.BusDataOrderIsPushOrder : Prop :=
  ∀ s t : State, step s = .next t → s.choice.answer ≠ .nack →
    ∃ pushed : List Byte, pushed.length ≤ 1 ∧ (s.stepper = some .ctrl → pushed = []) ∧
      dataBytes t.trace ++ fifoBytes t.fifo = dataBytes s.trace ++ fifoBytes s.fifo ++ pushed

/-- R31, R35: only SEQ pushes, only CTRL pops or flushes, only CTRL emits, and the trace only grows. -/
def Obligations.EachAgentKeepsToItsSideOfTheFifo : Prop :=
  ∀ s t : State, step s = .next t →
    s.trace <+: t.trace ∧
    (s.stepper ≠ some .ctrl → t.trace = s.trace ∧ s.fifo <+: t.fifo ∧ t.bus = s.bus) ∧
    (s.stepper = some .ctrl → t.fifo.length ≤ s.fifo.length ∧ t.pos = s.pos ∧ t.program = s.program ∧
      t.icCon = s.icCon ∧ t.icTar = s.icTar ∧ t.icEnable = s.icEnable)

/-- R34: nothing clears `tx_abort` or `held`, and only a NACK sets one of them. -/
def Obligations.AbortAndHoldAreNeverCleared : Prop :=
  ∀ s t : State, step s = .next t →
    (s.txAbort = true → t.txAbort = true) ∧ (s.held = true → t.held = true) ∧
    (t.txAbort ≠ s.txAbort → s.stepper = some .ctrl ∧ s.choice.answer = .nack ∧ s.choice.nack = .abort) ∧
    (t.held ≠ s.held → s.stepper = some .ctrl ∧ s.choice.answer = .nack ∧ s.choice.nack = .hold)

/-! ### Invariants and rules of the whole machine -/

/-- The controller invariant is kept by every step. -/
def Obligations.ControllerInvariantIsKept : Prop :=
  ∀ s t : State, s.Inv → step s = .next t → t.Inv

/-- The invariants hold at launch, and the default parameters are admitted by the model's reading of R164 (log 23). -/
def Obligations.InvariantsHoldAtLaunch : Prop :=
  State.reset.Inv ∧ State.reset.OperationInv ∧ State.reset.posOk ∧ State.reset.panel.Ok ∧ paramsOk State.reset.params = true

/-- The operation invariant is kept by every step. -/
def Obligations.OperationInvariantIsKept : Prop :=
  ∀ s t : State, s.OperationInv → step s = .next t → t.OperationInv

/-- R144, R201: when CALLER issues operations only, a step raises no fault but F_REINIT and F_NOT_INITIALIZED, and refuses
only a request's own encoding or operand. -/
def Obligations.EngineRaisesOnlyOrderFaults : Prop :=
  ∀ s t : State, s.OperationInv → step s = .next t →
    (t.fault = none ∨ t.fault = some .fReinit ∨ t.fault = some .fNotInitialized) ∧
    (t.refused = none ∨ t.refused = some .qReservedOp ∨ t.refused = some .qSpeed ∨ t.refused = some .qFbLength)

/-- SEQ always stands at a point of its operation. -/
def Obligations.PositionStaysAtAPoint : Prop :=
  ∀ s t : State, s.posOk → step s = .next t → t.posOk

/-- R21, R169: the phase moves from UNINIT to READY when INITIALIZE performs its last access, and never otherwise. -/
def Obligations.PhaseMovesOnlyWhenInitializeCompletes : Prop :=
  ∀ s t : State, step s = .next t → t.phase ≠ s.phase →
    s.phase = .uninit ∧ t.phase = .ready ∧ t.pos = .idle ∧ ∃ spd a7, s.pos = .at (.initializeOp spd a7) (.cfg 3)

/-- R21, R163: `init_done` is set only by INIT_SEQUENCE completing, and never cleared. -/
def Obligations.InitDoneIsSetOnlyByInitSequence : Prop :=
  ∀ s t : State, step s = .next t → t.initDone ≠ s.initDone →
    t.initDone = true ∧ t.pos = .idle ∧
    ((∃ j, s.pos = .at .initSequence (.pollIdle j) ∧ s.activity = false) ∨
     (s.pos = .idle ∧ s.params.initTable = [] ∧ ∃ w l rest, s.program = .request w l rest ∧
       decode (.op w l) = .ok .initSequence))

/-- R38, R244, R253: no step changes the parameters; IC_CON and IC_TAR change only while disabled; ENABLE is cleared only
while nothing is in progress. -/
def Obligations.ConfigurationChangesOnlyWhileDisabled : Prop :=
  ∀ s t : State, step s = .next t →
    t.params = s.params ∧
    ((t.icCon ≠ s.icCon ∨ t.icTar ≠ s.icTar) → s.enabled = false) ∧
    (s.enabled = true → t.enabled = false → s.bus = .idle ∧ s.held = false ∧ s.fifo = [])

/-- R88: a raw program changes neither the phase nor `init_done`, and neither F_REINIT nor F_NOT_INITIALIZED can arise. -/
def Obligations.RawProgramsKeepThePhase : Prop :=
  ∀ (s t : State) (accesses : List Access), s.pos = .raw accesses → step s = .next t →
    t.phase = s.phase ∧ t.initDone = s.initDone ∧ t.fault ≠ some .fReinit ∧ t.fault ≠ some .fNotInitialized

/-- R170, R88: the caller's loops and the RAW statement (log 13). -/
def Obligations.CallerLoopsUnrollByTheirRule : Prop :=
  ∀ (s : State) (n : Nat) (body rest : Program) (accesses : List Access), s.stepper = some .thread → s.pos = .idle →
    (s.program = .repeatN 0 body rest → step s = .next { s.draw with program := rest }) ∧
    (s.program = .repeatN (n + 1) body rest →
      step s = .next { s.draw with program := body.andThen (.repeatN n body rest) }) ∧
    (s.program = .forever body rest → step s = .next { s.draw with program := body.andThen (.forever body rest) }) ∧
    (s.program = .raw accesses rest →
      step s = .next { s.draw with program := rest, pos := if accesses = [] then .idle else .raw accesses })

/-- R40, R240: the launch state, and the status it reads. -/
def Obligations.LaunchStateIsAsStated : Prop :=
  State.reset.phase = .uninit ∧ State.reset.initDone = false ∧ State.reset.pos = .idle ∧
  State.reset.icCon = 0x00000065#32 ∧ State.reset.icTar = 0x00000055#32 ∧ State.reset.icEnable = 0x00000000#32 ∧
  State.reset.fifo = [] ∧ State.reset.bus = .idle ∧ State.reset.txAbort = false ∧ State.reset.held = false ∧
  State.reset.trace = [] ∧ State.reset.fault = none ∧ State.reset.refused = none ∧
  State.reset.icStatus = 0x00000006#32

/-! ### The panel observer -/

/-- R217: the panel after the transactions of the reference bring-up table and of a framebuffer, under both framings. -/
def Obligations.PanelShowsTheFramebuffer : Prop :=
  ∀ (p : Params) (f : List Byte), p.initTable = initTableRef → f.length = 1024 →
    let panel := observe (transactionsEvents 0x3C#7 (transfers p .initSequence ++ transfers p (.sendFramebuffer f)))
    panel.isKnown = true ∧ panel.displayState = some true ∧ panel.says Panel.mode = some .horizontal ∧
      panel.says Panel.col = some 0 ∧ panel.says Panel.page = some 0 ∧
      ∀ pg c, pg < 8 → c < 128 → panel.ramByte pg c = f[128 * pg + c]?

/-- The panel's ranges, windows and display RAM form are kept by every bus event. -/
def Obligations.PanelRangesAreKept : Prop :=
  ∀ (o : Observer) (e : BusEvent), o.Ok → (o.event e).Ok

/-- R210, R216: the observer ignores every transaction, from a START to the next STOP, whose first address is not an
acknowledged write address of 0x3C (log 14 for RESTART and NACK); and an unknown observer stays unknown and says nothing
of any field, display RAM byte or pixel (log 15). -/
def Obligations.ObserverReadsOnlyItsSlaveAndStaysUnknown : Prop :=
  (∀ (p : Panel) (events : List BusEvent), p.parse = .outside → .stop ∉ events → addressedElsewhere events →
    observeFrom (.known p) (.start :: events ++ [.stop]) = .known p) ∧
  (∀ (o : Observer) (trace : List BusEvent), o.isKnown = false →
    (observeFrom o trace).isKnown = false ∧
      (∀ (α : Type) (field : Panel → α), (observeFrom o trace).says field = none) ∧ (observeFrom o trace).displayState = none ∧
      ∀ x y, (observeFrom o trace).ramByte x y = none ∧ (observeFrom o trace).pixel x y = none)

/-- R216: data before the addressing mode is set, as from a framebuffer sent before the bring-up table, leaves the panel
unknown. -/
def Obligations.FramebufferBeforeBringUpLeavesThePanelUnknown : Prop :=
  ∀ (p : Params) (f : List Byte), f.length = 1024 →
    (observe (transactionsEvents 0x3C#7 (transfers p (.sendFramebuffer f)))).isKnown = false
end

