-- ==== Sys2Proof/Laws/State.lean ====
section
/-! SUPPORT. One lemma per field per state update, so that no later proof unfolds a record update. -/

namespace Sys2Proof.Machine

@[simp] theorem State.setRdata_params (s : State) (v : Word) : (s.setRdata v).params = s.params := rfl
@[simp] theorem State.setRdata_phase (s : State) (v : Word) : (s.setRdata v).phase = s.phase := rfl
@[simp] theorem State.setRdata_initDone (s : State) (v : Word) : (s.setRdata v).initDone = s.initDone := rfl
@[simp] theorem State.setRdata_pos (s : State) (v : Word) : (s.setRdata v).pos = s.pos := rfl
@[simp] theorem State.setRdata_icCon (s : State) (v : Word) : (s.setRdata v).icCon = s.icCon := rfl
@[simp] theorem State.setRdata_icTar (s : State) (v : Word) : (s.setRdata v).icTar = s.icTar := rfl
@[simp] theorem State.setRdata_icEnable (s : State) (v : Word) : (s.setRdata v).icEnable = s.icEnable := rfl
@[simp] theorem State.setRdata_fifo (s : State) (v : Word) : (s.setRdata v).fifo = s.fifo := rfl
@[simp] theorem State.setRdata_bus (s : State) (v : Word) : (s.setRdata v).bus = s.bus := rfl
@[simp] theorem State.setRdata_txAbort (s : State) (v : Word) : (s.setRdata v).txAbort = s.txAbort := rfl
@[simp] theorem State.setRdata_held (s : State) (v : Word) : (s.setRdata v).held = s.held := rfl
@[simp] theorem State.setRdata_trace (s : State) (v : Word) : (s.setRdata v).trace = s.trace := rfl
@[simp] theorem State.setRdata_fault (s : State) (v : Word) : (s.setRdata v).fault = s.fault := rfl
@[simp] theorem State.setRdata_refused (s : State) (v : Word) : (s.setRdata v).refused = s.refused := rfl
@[simp] theorem State.setRdata_program (s : State) (v : Word) : (s.setRdata v).program = s.program := rfl
@[simp] theorem State.setRdata_rdata (s : State) (v : Word) : (s.setRdata v).rdata = v := rfl
@[simp] theorem State.setRdata_script (s : State) (v : Word) : (s.setRdata v).script = s.script := rfl
@[simp] theorem State.setRdata_tick (s : State) (v : Word) : (s.setRdata v).tick = s.tick := rfl

@[simp] theorem State.setIcCon_params (s : State) (v : Word) : (s.setIcCon v).params = s.params := rfl
@[simp] theorem State.setIcCon_phase (s : State) (v : Word) : (s.setIcCon v).phase = s.phase := rfl
@[simp] theorem State.setIcCon_initDone (s : State) (v : Word) : (s.setIcCon v).initDone = s.initDone := rfl
@[simp] theorem State.setIcCon_pos (s : State) (v : Word) : (s.setIcCon v).pos = s.pos := rfl
@[simp] theorem State.setIcCon_icCon (s : State) (v : Word) : (s.setIcCon v).icCon = v := rfl
@[simp] theorem State.setIcCon_icTar (s : State) (v : Word) : (s.setIcCon v).icTar = s.icTar := rfl
@[simp] theorem State.setIcCon_icEnable (s : State) (v : Word) : (s.setIcCon v).icEnable = s.icEnable := rfl
@[simp] theorem State.setIcCon_fifo (s : State) (v : Word) : (s.setIcCon v).fifo = s.fifo := rfl
@[simp] theorem State.setIcCon_bus (s : State) (v : Word) : (s.setIcCon v).bus = s.bus := rfl
@[simp] theorem State.setIcCon_txAbort (s : State) (v : Word) : (s.setIcCon v).txAbort = s.txAbort := rfl
@[simp] theorem State.setIcCon_held (s : State) (v : Word) : (s.setIcCon v).held = s.held := rfl
@[simp] theorem State.setIcCon_trace (s : State) (v : Word) : (s.setIcCon v).trace = s.trace := rfl
@[simp] theorem State.setIcCon_fault (s : State) (v : Word) : (s.setIcCon v).fault = s.fault := rfl
@[simp] theorem State.setIcCon_refused (s : State) (v : Word) : (s.setIcCon v).refused = s.refused := rfl
@[simp] theorem State.setIcCon_program (s : State) (v : Word) : (s.setIcCon v).program = s.program := rfl
@[simp] theorem State.setIcCon_rdata (s : State) (v : Word) : (s.setIcCon v).rdata = s.rdata := rfl
@[simp] theorem State.setIcCon_script (s : State) (v : Word) : (s.setIcCon v).script = s.script := rfl
@[simp] theorem State.setIcCon_tick (s : State) (v : Word) : (s.setIcCon v).tick = s.tick := rfl

@[simp] theorem State.setIcTar_params (s : State) (v : Word) : (s.setIcTar v).params = s.params := rfl
@[simp] theorem State.setIcTar_phase (s : State) (v : Word) : (s.setIcTar v).phase = s.phase := rfl
@[simp] theorem State.setIcTar_initDone (s : State) (v : Word) : (s.setIcTar v).initDone = s.initDone := rfl
@[simp] theorem State.setIcTar_pos (s : State) (v : Word) : (s.setIcTar v).pos = s.pos := rfl
@[simp] theorem State.setIcTar_icCon (s : State) (v : Word) : (s.setIcTar v).icCon = s.icCon := rfl
@[simp] theorem State.setIcTar_icTar (s : State) (v : Word) : (s.setIcTar v).icTar = v := rfl
@[simp] theorem State.setIcTar_icEnable (s : State) (v : Word) : (s.setIcTar v).icEnable = s.icEnable := rfl
@[simp] theorem State.setIcTar_fifo (s : State) (v : Word) : (s.setIcTar v).fifo = s.fifo := rfl
@[simp] theorem State.setIcTar_bus (s : State) (v : Word) : (s.setIcTar v).bus = s.bus := rfl
@[simp] theorem State.setIcTar_txAbort (s : State) (v : Word) : (s.setIcTar v).txAbort = s.txAbort := rfl
@[simp] theorem State.setIcTar_held (s : State) (v : Word) : (s.setIcTar v).held = s.held := rfl
@[simp] theorem State.setIcTar_trace (s : State) (v : Word) : (s.setIcTar v).trace = s.trace := rfl
@[simp] theorem State.setIcTar_fault (s : State) (v : Word) : (s.setIcTar v).fault = s.fault := rfl
@[simp] theorem State.setIcTar_refused (s : State) (v : Word) : (s.setIcTar v).refused = s.refused := rfl
@[simp] theorem State.setIcTar_program (s : State) (v : Word) : (s.setIcTar v).program = s.program := rfl
@[simp] theorem State.setIcTar_rdata (s : State) (v : Word) : (s.setIcTar v).rdata = s.rdata := rfl
@[simp] theorem State.setIcTar_script (s : State) (v : Word) : (s.setIcTar v).script = s.script := rfl
@[simp] theorem State.setIcTar_tick (s : State) (v : Word) : (s.setIcTar v).tick = s.tick := rfl

@[simp] theorem State.setIcEnable_params (s : State) (v : Word) : (s.setIcEnable v).params = s.params := rfl
@[simp] theorem State.setIcEnable_phase (s : State) (v : Word) : (s.setIcEnable v).phase = s.phase := rfl
@[simp] theorem State.setIcEnable_initDone (s : State) (v : Word) : (s.setIcEnable v).initDone = s.initDone := rfl
@[simp] theorem State.setIcEnable_pos (s : State) (v : Word) : (s.setIcEnable v).pos = s.pos := rfl
@[simp] theorem State.setIcEnable_icCon (s : State) (v : Word) : (s.setIcEnable v).icCon = s.icCon := rfl
@[simp] theorem State.setIcEnable_icTar (s : State) (v : Word) : (s.setIcEnable v).icTar = s.icTar := rfl
@[simp] theorem State.setIcEnable_icEnable (s : State) (v : Word) : (s.setIcEnable v).icEnable = v := rfl
@[simp] theorem State.setIcEnable_fifo (s : State) (v : Word) : (s.setIcEnable v).fifo = s.fifo := rfl
@[simp] theorem State.setIcEnable_bus (s : State) (v : Word) : (s.setIcEnable v).bus = s.bus := rfl
@[simp] theorem State.setIcEnable_txAbort (s : State) (v : Word) : (s.setIcEnable v).txAbort = s.txAbort := rfl
@[simp] theorem State.setIcEnable_held (s : State) (v : Word) : (s.setIcEnable v).held = s.held := rfl
@[simp] theorem State.setIcEnable_trace (s : State) (v : Word) : (s.setIcEnable v).trace = s.trace := rfl
@[simp] theorem State.setIcEnable_fault (s : State) (v : Word) : (s.setIcEnable v).fault = s.fault := rfl
@[simp] theorem State.setIcEnable_refused (s : State) (v : Word) : (s.setIcEnable v).refused = s.refused := rfl
@[simp] theorem State.setIcEnable_program (s : State) (v : Word) : (s.setIcEnable v).program = s.program := rfl
@[simp] theorem State.setIcEnable_rdata (s : State) (v : Word) : (s.setIcEnable v).rdata = s.rdata := rfl
@[simp] theorem State.setIcEnable_script (s : State) (v : Word) : (s.setIcEnable v).script = s.script := rfl
@[simp] theorem State.setIcEnable_tick (s : State) (v : Word) : (s.setIcEnable v).tick = s.tick := rfl

@[simp] theorem State.setFifo_params (s : State) (q : List Entry) : (s.setFifo q).params = s.params := rfl
@[simp] theorem State.setFifo_phase (s : State) (q : List Entry) : (s.setFifo q).phase = s.phase := rfl
@[simp] theorem State.setFifo_initDone (s : State) (q : List Entry) : (s.setFifo q).initDone = s.initDone := rfl
@[simp] theorem State.setFifo_pos (s : State) (q : List Entry) : (s.setFifo q).pos = s.pos := rfl
@[simp] theorem State.setFifo_icCon (s : State) (q : List Entry) : (s.setFifo q).icCon = s.icCon := rfl
@[simp] theorem State.setFifo_icTar (s : State) (q : List Entry) : (s.setFifo q).icTar = s.icTar := rfl
@[simp] theorem State.setFifo_icEnable (s : State) (q : List Entry) : (s.setFifo q).icEnable = s.icEnable := rfl
@[simp] theorem State.setFifo_fifo (s : State) (q : List Entry) : (s.setFifo q).fifo = q := rfl
@[simp] theorem State.setFifo_bus (s : State) (q : List Entry) : (s.setFifo q).bus = s.bus := rfl
@[simp] theorem State.setFifo_txAbort (s : State) (q : List Entry) : (s.setFifo q).txAbort = s.txAbort := rfl
@[simp] theorem State.setFifo_held (s : State) (q : List Entry) : (s.setFifo q).held = s.held := rfl
@[simp] theorem State.setFifo_trace (s : State) (q : List Entry) : (s.setFifo q).trace = s.trace := rfl
@[simp] theorem State.setFifo_fault (s : State) (q : List Entry) : (s.setFifo q).fault = s.fault := rfl
@[simp] theorem State.setFifo_refused (s : State) (q : List Entry) : (s.setFifo q).refused = s.refused := rfl
@[simp] theorem State.setFifo_program (s : State) (q : List Entry) : (s.setFifo q).program = s.program := rfl
@[simp] theorem State.setFifo_rdata (s : State) (q : List Entry) : (s.setFifo q).rdata = s.rdata := rfl
@[simp] theorem State.setFifo_script (s : State) (q : List Entry) : (s.setFifo q).script = s.script := rfl
@[simp] theorem State.setFifo_tick (s : State) (q : List Entry) : (s.setFifo q).tick = s.tick := rfl

@[simp] theorem State.pushEntry_params (s : State) (e : Entry) : (s.pushEntry e).params = s.params := rfl
@[simp] theorem State.pushEntry_phase (s : State) (e : Entry) : (s.pushEntry e).phase = s.phase := rfl
@[simp] theorem State.pushEntry_initDone (s : State) (e : Entry) : (s.pushEntry e).initDone = s.initDone := rfl
@[simp] theorem State.pushEntry_pos (s : State) (e : Entry) : (s.pushEntry e).pos = s.pos := rfl
@[simp] theorem State.pushEntry_icCon (s : State) (e : Entry) : (s.pushEntry e).icCon = s.icCon := rfl
@[simp] theorem State.pushEntry_icTar (s : State) (e : Entry) : (s.pushEntry e).icTar = s.icTar := rfl
@[simp] theorem State.pushEntry_icEnable (s : State) (e : Entry) : (s.pushEntry e).icEnable = s.icEnable := rfl
@[simp] theorem State.pushEntry_fifo (s : State) (e : Entry) : (s.pushEntry e).fifo = s.fifo ++ [e] := rfl
@[simp] theorem State.pushEntry_bus (s : State) (e : Entry) : (s.pushEntry e).bus = s.bus := rfl
@[simp] theorem State.pushEntry_txAbort (s : State) (e : Entry) : (s.pushEntry e).txAbort = s.txAbort := rfl
@[simp] theorem State.pushEntry_held (s : State) (e : Entry) : (s.pushEntry e).held = s.held := rfl
@[simp] theorem State.pushEntry_trace (s : State) (e : Entry) : (s.pushEntry e).trace = s.trace := rfl
@[simp] theorem State.pushEntry_fault (s : State) (e : Entry) : (s.pushEntry e).fault = s.fault := rfl
@[simp] theorem State.pushEntry_refused (s : State) (e : Entry) : (s.pushEntry e).refused = s.refused := rfl
@[simp] theorem State.pushEntry_program (s : State) (e : Entry) : (s.pushEntry e).program = s.program := rfl
@[simp] theorem State.pushEntry_rdata (s : State) (e : Entry) : (s.pushEntry e).rdata = s.rdata := rfl
@[simp] theorem State.pushEntry_script (s : State) (e : Entry) : (s.pushEntry e).script = s.script := rfl
@[simp] theorem State.pushEntry_tick (s : State) (e : Entry) : (s.pushEntry e).tick = s.tick := rfl

@[simp] theorem State.popEntry_params (s : State) : s.popEntry.params = s.params := rfl
@[simp] theorem State.popEntry_phase (s : State) : s.popEntry.phase = s.phase := rfl
@[simp] theorem State.popEntry_initDone (s : State) : s.popEntry.initDone = s.initDone := rfl
@[simp] theorem State.popEntry_pos (s : State) : s.popEntry.pos = s.pos := rfl
@[simp] theorem State.popEntry_icCon (s : State) : s.popEntry.icCon = s.icCon := rfl
@[simp] theorem State.popEntry_icTar (s : State) : s.popEntry.icTar = s.icTar := rfl
@[simp] theorem State.popEntry_icEnable (s : State) : s.popEntry.icEnable = s.icEnable := rfl
@[simp] theorem State.popEntry_fifo (s : State) : s.popEntry.fifo = s.fifo.tail := rfl
@[simp] theorem State.popEntry_bus (s : State) : s.popEntry.bus = s.bus := rfl
@[simp] theorem State.popEntry_txAbort (s : State) : s.popEntry.txAbort = s.txAbort := rfl
@[simp] theorem State.popEntry_held (s : State) : s.popEntry.held = s.held := rfl
@[simp] theorem State.popEntry_trace (s : State) : s.popEntry.trace = s.trace := rfl
@[simp] theorem State.popEntry_fault (s : State) : s.popEntry.fault = s.fault := rfl
@[simp] theorem State.popEntry_refused (s : State) : s.popEntry.refused = s.refused := rfl
@[simp] theorem State.popEntry_program (s : State) : s.popEntry.program = s.program := rfl
@[simp] theorem State.popEntry_rdata (s : State) : s.popEntry.rdata = s.rdata := rfl
@[simp] theorem State.popEntry_script (s : State) : s.popEntry.script = s.script := rfl
@[simp] theorem State.popEntry_tick (s : State) : s.popEntry.tick = s.tick := rfl

@[simp] theorem State.setBus_params (s : State) (b : Bus) : (s.setBus b).params = s.params := rfl
@[simp] theorem State.setBus_phase (s : State) (b : Bus) : (s.setBus b).phase = s.phase := rfl
@[simp] theorem State.setBus_initDone (s : State) (b : Bus) : (s.setBus b).initDone = s.initDone := rfl
@[simp] theorem State.setBus_pos (s : State) (b : Bus) : (s.setBus b).pos = s.pos := rfl
@[simp] theorem State.setBus_icCon (s : State) (b : Bus) : (s.setBus b).icCon = s.icCon := rfl
@[simp] theorem State.setBus_icTar (s : State) (b : Bus) : (s.setBus b).icTar = s.icTar := rfl
@[simp] theorem State.setBus_icEnable (s : State) (b : Bus) : (s.setBus b).icEnable = s.icEnable := rfl
@[simp] theorem State.setBus_fifo (s : State) (b : Bus) : (s.setBus b).fifo = s.fifo := rfl
@[simp] theorem State.setBus_bus (s : State) (b : Bus) : (s.setBus b).bus = b := rfl
@[simp] theorem State.setBus_txAbort (s : State) (b : Bus) : (s.setBus b).txAbort = s.txAbort := rfl
@[simp] theorem State.setBus_held (s : State) (b : Bus) : (s.setBus b).held = s.held := rfl
@[simp] theorem State.setBus_trace (s : State) (b : Bus) : (s.setBus b).trace = s.trace := rfl
@[simp] theorem State.setBus_fault (s : State) (b : Bus) : (s.setBus b).fault = s.fault := rfl
@[simp] theorem State.setBus_refused (s : State) (b : Bus) : (s.setBus b).refused = s.refused := rfl
@[simp] theorem State.setBus_program (s : State) (b : Bus) : (s.setBus b).program = s.program := rfl
@[simp] theorem State.setBus_rdata (s : State) (b : Bus) : (s.setBus b).rdata = s.rdata := rfl
@[simp] theorem State.setBus_script (s : State) (b : Bus) : (s.setBus b).script = s.script := rfl
@[simp] theorem State.setBus_tick (s : State) (b : Bus) : (s.setBus b).tick = s.tick := rfl

@[simp] theorem State.setTxAbort_params (s : State) (b : Bool) : (s.setTxAbort b).params = s.params := rfl
@[simp] theorem State.setTxAbort_phase (s : State) (b : Bool) : (s.setTxAbort b).phase = s.phase := rfl
@[simp] theorem State.setTxAbort_initDone (s : State) (b : Bool) : (s.setTxAbort b).initDone = s.initDone := rfl
@[simp] theorem State.setTxAbort_pos (s : State) (b : Bool) : (s.setTxAbort b).pos = s.pos := rfl
@[simp] theorem State.setTxAbort_icCon (s : State) (b : Bool) : (s.setTxAbort b).icCon = s.icCon := rfl
@[simp] theorem State.setTxAbort_icTar (s : State) (b : Bool) : (s.setTxAbort b).icTar = s.icTar := rfl
@[simp] theorem State.setTxAbort_icEnable (s : State) (b : Bool) : (s.setTxAbort b).icEnable = s.icEnable := rfl
@[simp] theorem State.setTxAbort_fifo (s : State) (b : Bool) : (s.setTxAbort b).fifo = s.fifo := rfl
@[simp] theorem State.setTxAbort_bus (s : State) (b : Bool) : (s.setTxAbort b).bus = s.bus := rfl
@[simp] theorem State.setTxAbort_txAbort (s : State) (b : Bool) : (s.setTxAbort b).txAbort = b := rfl
@[simp] theorem State.setTxAbort_held (s : State) (b : Bool) : (s.setTxAbort b).held = s.held := rfl
@[simp] theorem State.setTxAbort_trace (s : State) (b : Bool) : (s.setTxAbort b).trace = s.trace := rfl
@[simp] theorem State.setTxAbort_fault (s : State) (b : Bool) : (s.setTxAbort b).fault = s.fault := rfl
@[simp] theorem State.setTxAbort_refused (s : State) (b : Bool) : (s.setTxAbort b).refused = s.refused := rfl
@[simp] theorem State.setTxAbort_program (s : State) (b : Bool) : (s.setTxAbort b).program = s.program := rfl
@[simp] theorem State.setTxAbort_rdata (s : State) (b : Bool) : (s.setTxAbort b).rdata = s.rdata := rfl
@[simp] theorem State.setTxAbort_script (s : State) (b : Bool) : (s.setTxAbort b).script = s.script := rfl
@[simp] theorem State.setTxAbort_tick (s : State) (b : Bool) : (s.setTxAbort b).tick = s.tick := rfl

@[simp] theorem State.setHeld_params (s : State) (b : Bool) : (s.setHeld b).params = s.params := rfl
@[simp] theorem State.setHeld_phase (s : State) (b : Bool) : (s.setHeld b).phase = s.phase := rfl
@[simp] theorem State.setHeld_initDone (s : State) (b : Bool) : (s.setHeld b).initDone = s.initDone := rfl
@[simp] theorem State.setHeld_pos (s : State) (b : Bool) : (s.setHeld b).pos = s.pos := rfl
@[simp] theorem State.setHeld_icCon (s : State) (b : Bool) : (s.setHeld b).icCon = s.icCon := rfl
@[simp] theorem State.setHeld_icTar (s : State) (b : Bool) : (s.setHeld b).icTar = s.icTar := rfl
@[simp] theorem State.setHeld_icEnable (s : State) (b : Bool) : (s.setHeld b).icEnable = s.icEnable := rfl
@[simp] theorem State.setHeld_fifo (s : State) (b : Bool) : (s.setHeld b).fifo = s.fifo := rfl
@[simp] theorem State.setHeld_bus (s : State) (b : Bool) : (s.setHeld b).bus = s.bus := rfl
@[simp] theorem State.setHeld_txAbort (s : State) (b : Bool) : (s.setHeld b).txAbort = s.txAbort := rfl
@[simp] theorem State.setHeld_held (s : State) (b : Bool) : (s.setHeld b).held = b := rfl
@[simp] theorem State.setHeld_trace (s : State) (b : Bool) : (s.setHeld b).trace = s.trace := rfl
@[simp] theorem State.setHeld_fault (s : State) (b : Bool) : (s.setHeld b).fault = s.fault := rfl
@[simp] theorem State.setHeld_refused (s : State) (b : Bool) : (s.setHeld b).refused = s.refused := rfl
@[simp] theorem State.setHeld_program (s : State) (b : Bool) : (s.setHeld b).program = s.program := rfl
@[simp] theorem State.setHeld_rdata (s : State) (b : Bool) : (s.setHeld b).rdata = s.rdata := rfl
@[simp] theorem State.setHeld_script (s : State) (b : Bool) : (s.setHeld b).script = s.script := rfl
@[simp] theorem State.setHeld_tick (s : State) (b : Bool) : (s.setHeld b).tick = s.tick := rfl

@[simp] theorem State.emit_params (s : State) (evs : List BusEvent) : (s.emit evs).params = s.params := rfl
@[simp] theorem State.emit_phase (s : State) (evs : List BusEvent) : (s.emit evs).phase = s.phase := rfl
@[simp] theorem State.emit_initDone (s : State) (evs : List BusEvent) : (s.emit evs).initDone = s.initDone := rfl
@[simp] theorem State.emit_pos (s : State) (evs : List BusEvent) : (s.emit evs).pos = s.pos := rfl
@[simp] theorem State.emit_icCon (s : State) (evs : List BusEvent) : (s.emit evs).icCon = s.icCon := rfl
@[simp] theorem State.emit_icTar (s : State) (evs : List BusEvent) : (s.emit evs).icTar = s.icTar := rfl
@[simp] theorem State.emit_icEnable (s : State) (evs : List BusEvent) : (s.emit evs).icEnable = s.icEnable := rfl
@[simp] theorem State.emit_fifo (s : State) (evs : List BusEvent) : (s.emit evs).fifo = s.fifo := rfl
@[simp] theorem State.emit_bus (s : State) (evs : List BusEvent) : (s.emit evs).bus = s.bus := rfl
@[simp] theorem State.emit_txAbort (s : State) (evs : List BusEvent) : (s.emit evs).txAbort = s.txAbort := rfl
@[simp] theorem State.emit_held (s : State) (evs : List BusEvent) : (s.emit evs).held = s.held := rfl
@[simp] theorem State.emit_trace (s : State) (evs : List BusEvent) : (s.emit evs).trace = s.trace ++ evs := rfl
@[simp] theorem State.emit_fault (s : State) (evs : List BusEvent) : (s.emit evs).fault = s.fault := rfl
@[simp] theorem State.emit_refused (s : State) (evs : List BusEvent) : (s.emit evs).refused = s.refused := rfl
@[simp] theorem State.emit_program (s : State) (evs : List BusEvent) : (s.emit evs).program = s.program := rfl
@[simp] theorem State.emit_rdata (s : State) (evs : List BusEvent) : (s.emit evs).rdata = s.rdata := rfl
@[simp] theorem State.emit_script (s : State) (evs : List BusEvent) : (s.emit evs).script = s.script := rfl
@[simp] theorem State.emit_tick (s : State) (evs : List BusEvent) : (s.emit evs).tick = s.tick := rfl

@[simp] theorem State.setPos_params (s : State) (p : Pos) : (s.setPos p).params = s.params := rfl
@[simp] theorem State.setPos_phase (s : State) (p : Pos) : (s.setPos p).phase = s.phase := rfl
@[simp] theorem State.setPos_initDone (s : State) (p : Pos) : (s.setPos p).initDone = s.initDone := rfl
@[simp] theorem State.setPos_pos (s : State) (p : Pos) : (s.setPos p).pos = p := rfl
@[simp] theorem State.setPos_icCon (s : State) (p : Pos) : (s.setPos p).icCon = s.icCon := rfl
@[simp] theorem State.setPos_icTar (s : State) (p : Pos) : (s.setPos p).icTar = s.icTar := rfl
@[simp] theorem State.setPos_icEnable (s : State) (p : Pos) : (s.setPos p).icEnable = s.icEnable := rfl
@[simp] theorem State.setPos_fifo (s : State) (p : Pos) : (s.setPos p).fifo = s.fifo := rfl
@[simp] theorem State.setPos_bus (s : State) (p : Pos) : (s.setPos p).bus = s.bus := rfl
@[simp] theorem State.setPos_txAbort (s : State) (p : Pos) : (s.setPos p).txAbort = s.txAbort := rfl
@[simp] theorem State.setPos_held (s : State) (p : Pos) : (s.setPos p).held = s.held := rfl
@[simp] theorem State.setPos_trace (s : State) (p : Pos) : (s.setPos p).trace = s.trace := rfl
@[simp] theorem State.setPos_fault (s : State) (p : Pos) : (s.setPos p).fault = s.fault := rfl
@[simp] theorem State.setPos_refused (s : State) (p : Pos) : (s.setPos p).refused = s.refused := rfl
@[simp] theorem State.setPos_program (s : State) (p : Pos) : (s.setPos p).program = s.program := rfl
@[simp] theorem State.setPos_rdata (s : State) (p : Pos) : (s.setPos p).rdata = s.rdata := rfl
@[simp] theorem State.setPos_script (s : State) (p : Pos) : (s.setPos p).script = s.script := rfl
@[simp] theorem State.setPos_tick (s : State) (p : Pos) : (s.setPos p).tick = s.tick := rfl

@[simp] theorem State.setPhase_params (s : State) (p : Phase) : (s.setPhase p).params = s.params := rfl
@[simp] theorem State.setPhase_phase (s : State) (p : Phase) : (s.setPhase p).phase = p := rfl
@[simp] theorem State.setPhase_initDone (s : State) (p : Phase) : (s.setPhase p).initDone = s.initDone := rfl
@[simp] theorem State.setPhase_pos (s : State) (p : Phase) : (s.setPhase p).pos = s.pos := rfl
@[simp] theorem State.setPhase_icCon (s : State) (p : Phase) : (s.setPhase p).icCon = s.icCon := rfl
@[simp] theorem State.setPhase_icTar (s : State) (p : Phase) : (s.setPhase p).icTar = s.icTar := rfl
@[simp] theorem State.setPhase_icEnable (s : State) (p : Phase) : (s.setPhase p).icEnable = s.icEnable := rfl
@[simp] theorem State.setPhase_fifo (s : State) (p : Phase) : (s.setPhase p).fifo = s.fifo := rfl
@[simp] theorem State.setPhase_bus (s : State) (p : Phase) : (s.setPhase p).bus = s.bus := rfl
@[simp] theorem State.setPhase_txAbort (s : State) (p : Phase) : (s.setPhase p).txAbort = s.txAbort := rfl
@[simp] theorem State.setPhase_held (s : State) (p : Phase) : (s.setPhase p).held = s.held := rfl
@[simp] theorem State.setPhase_trace (s : State) (p : Phase) : (s.setPhase p).trace = s.trace := rfl
@[simp] theorem State.setPhase_fault (s : State) (p : Phase) : (s.setPhase p).fault = s.fault := rfl
@[simp] theorem State.setPhase_refused (s : State) (p : Phase) : (s.setPhase p).refused = s.refused := rfl
@[simp] theorem State.setPhase_program (s : State) (p : Phase) : (s.setPhase p).program = s.program := rfl
@[simp] theorem State.setPhase_rdata (s : State) (p : Phase) : (s.setPhase p).rdata = s.rdata := rfl
@[simp] theorem State.setPhase_script (s : State) (p : Phase) : (s.setPhase p).script = s.script := rfl
@[simp] theorem State.setPhase_tick (s : State) (p : Phase) : (s.setPhase p).tick = s.tick := rfl

@[simp] theorem State.setInitDone_params (s : State) (b : Bool) : (s.setInitDone b).params = s.params := rfl
@[simp] theorem State.setInitDone_phase (s : State) (b : Bool) : (s.setInitDone b).phase = s.phase := rfl
@[simp] theorem State.setInitDone_initDone (s : State) (b : Bool) : (s.setInitDone b).initDone = b := rfl
@[simp] theorem State.setInitDone_pos (s : State) (b : Bool) : (s.setInitDone b).pos = s.pos := rfl
@[simp] theorem State.setInitDone_icCon (s : State) (b : Bool) : (s.setInitDone b).icCon = s.icCon := rfl
@[simp] theorem State.setInitDone_icTar (s : State) (b : Bool) : (s.setInitDone b).icTar = s.icTar := rfl
@[simp] theorem State.setInitDone_icEnable (s : State) (b : Bool) : (s.setInitDone b).icEnable = s.icEnable := rfl
@[simp] theorem State.setInitDone_fifo (s : State) (b : Bool) : (s.setInitDone b).fifo = s.fifo := rfl
@[simp] theorem State.setInitDone_bus (s : State) (b : Bool) : (s.setInitDone b).bus = s.bus := rfl
@[simp] theorem State.setInitDone_txAbort (s : State) (b : Bool) : (s.setInitDone b).txAbort = s.txAbort := rfl
@[simp] theorem State.setInitDone_held (s : State) (b : Bool) : (s.setInitDone b).held = s.held := rfl
@[simp] theorem State.setInitDone_trace (s : State) (b : Bool) : (s.setInitDone b).trace = s.trace := rfl
@[simp] theorem State.setInitDone_fault (s : State) (b : Bool) : (s.setInitDone b).fault = s.fault := rfl
@[simp] theorem State.setInitDone_refused (s : State) (b : Bool) : (s.setInitDone b).refused = s.refused := rfl
@[simp] theorem State.setInitDone_program (s : State) (b : Bool) : (s.setInitDone b).program = s.program := rfl
@[simp] theorem State.setInitDone_rdata (s : State) (b : Bool) : (s.setInitDone b).rdata = s.rdata := rfl
@[simp] theorem State.setInitDone_script (s : State) (b : Bool) : (s.setInitDone b).script = s.script := rfl
@[simp] theorem State.setInitDone_tick (s : State) (b : Bool) : (s.setInitDone b).tick = s.tick := rfl

@[simp] theorem State.setProgram_params (s : State) (p : Program) : (s.setProgram p).params = s.params := rfl
@[simp] theorem State.setProgram_phase (s : State) (p : Program) : (s.setProgram p).phase = s.phase := rfl
@[simp] theorem State.setProgram_initDone (s : State) (p : Program) : (s.setProgram p).initDone = s.initDone := rfl
@[simp] theorem State.setProgram_pos (s : State) (p : Program) : (s.setProgram p).pos = s.pos := rfl
@[simp] theorem State.setProgram_icCon (s : State) (p : Program) : (s.setProgram p).icCon = s.icCon := rfl
@[simp] theorem State.setProgram_icTar (s : State) (p : Program) : (s.setProgram p).icTar = s.icTar := rfl
@[simp] theorem State.setProgram_icEnable (s : State) (p : Program) : (s.setProgram p).icEnable = s.icEnable := rfl
@[simp] theorem State.setProgram_fifo (s : State) (p : Program) : (s.setProgram p).fifo = s.fifo := rfl
@[simp] theorem State.setProgram_bus (s : State) (p : Program) : (s.setProgram p).bus = s.bus := rfl
@[simp] theorem State.setProgram_txAbort (s : State) (p : Program) : (s.setProgram p).txAbort = s.txAbort := rfl
@[simp] theorem State.setProgram_held (s : State) (p : Program) : (s.setProgram p).held = s.held := rfl
@[simp] theorem State.setProgram_trace (s : State) (p : Program) : (s.setProgram p).trace = s.trace := rfl
@[simp] theorem State.setProgram_fault (s : State) (p : Program) : (s.setProgram p).fault = s.fault := rfl
@[simp] theorem State.setProgram_refused (s : State) (p : Program) : (s.setProgram p).refused = s.refused := rfl
@[simp] theorem State.setProgram_program (s : State) (p : Program) : (s.setProgram p).program = p := rfl
@[simp] theorem State.setProgram_rdata (s : State) (p : Program) : (s.setProgram p).rdata = s.rdata := rfl
@[simp] theorem State.setProgram_script (s : State) (p : Program) : (s.setProgram p).script = s.script := rfl
@[simp] theorem State.setProgram_tick (s : State) (p : Program) : (s.setProgram p).tick = s.tick := rfl

@[simp] theorem State.recordFault_params (s : State) (f : Fault) : (s.recordFault f).params = s.params := rfl
@[simp] theorem State.recordFault_phase (s : State) (f : Fault) : (s.recordFault f).phase = s.phase := rfl
@[simp] theorem State.recordFault_initDone (s : State) (f : Fault) : (s.recordFault f).initDone = s.initDone := rfl
@[simp] theorem State.recordFault_pos (s : State) (f : Fault) : (s.recordFault f).pos = s.pos := rfl
@[simp] theorem State.recordFault_icCon (s : State) (f : Fault) : (s.recordFault f).icCon = s.icCon := rfl
@[simp] theorem State.recordFault_icTar (s : State) (f : Fault) : (s.recordFault f).icTar = s.icTar := rfl
@[simp] theorem State.recordFault_icEnable (s : State) (f : Fault) : (s.recordFault f).icEnable = s.icEnable := rfl
@[simp] theorem State.recordFault_fifo (s : State) (f : Fault) : (s.recordFault f).fifo = s.fifo := rfl
@[simp] theorem State.recordFault_bus (s : State) (f : Fault) : (s.recordFault f).bus = s.bus := rfl
@[simp] theorem State.recordFault_txAbort (s : State) (f : Fault) : (s.recordFault f).txAbort = s.txAbort := rfl
@[simp] theorem State.recordFault_held (s : State) (f : Fault) : (s.recordFault f).held = s.held := rfl
@[simp] theorem State.recordFault_trace (s : State) (f : Fault) : (s.recordFault f).trace = s.trace := rfl
@[simp] theorem State.recordFault_fault (s : State) (f : Fault) : (s.recordFault f).fault = some f := rfl
@[simp] theorem State.recordFault_refused (s : State) (f : Fault) : (s.recordFault f).refused = s.refused := rfl
@[simp] theorem State.recordFault_program (s : State) (f : Fault) : (s.recordFault f).program = s.program := rfl
@[simp] theorem State.recordFault_rdata (s : State) (f : Fault) : (s.recordFault f).rdata = s.rdata := rfl
@[simp] theorem State.recordFault_script (s : State) (f : Fault) : (s.recordFault f).script = s.script := rfl
@[simp] theorem State.recordFault_tick (s : State) (f : Fault) : (s.recordFault f).tick = s.tick := rfl

@[simp] theorem State.recordRefusal_params (s : State) (q : Refusal) : (s.recordRefusal q).params = s.params := rfl
@[simp] theorem State.recordRefusal_phase (s : State) (q : Refusal) : (s.recordRefusal q).phase = s.phase := rfl
@[simp] theorem State.recordRefusal_initDone (s : State) (q : Refusal) : (s.recordRefusal q).initDone = s.initDone := rfl
@[simp] theorem State.recordRefusal_pos (s : State) (q : Refusal) : (s.recordRefusal q).pos = s.pos := rfl
@[simp] theorem State.recordRefusal_icCon (s : State) (q : Refusal) : (s.recordRefusal q).icCon = s.icCon := rfl
@[simp] theorem State.recordRefusal_icTar (s : State) (q : Refusal) : (s.recordRefusal q).icTar = s.icTar := rfl
@[simp] theorem State.recordRefusal_icEnable (s : State) (q : Refusal) : (s.recordRefusal q).icEnable = s.icEnable := rfl
@[simp] theorem State.recordRefusal_fifo (s : State) (q : Refusal) : (s.recordRefusal q).fifo = s.fifo := rfl
@[simp] theorem State.recordRefusal_bus (s : State) (q : Refusal) : (s.recordRefusal q).bus = s.bus := rfl
@[simp] theorem State.recordRefusal_txAbort (s : State) (q : Refusal) : (s.recordRefusal q).txAbort = s.txAbort := rfl
@[simp] theorem State.recordRefusal_held (s : State) (q : Refusal) : (s.recordRefusal q).held = s.held := rfl
@[simp] theorem State.recordRefusal_trace (s : State) (q : Refusal) : (s.recordRefusal q).trace = s.trace := rfl
@[simp] theorem State.recordRefusal_fault (s : State) (q : Refusal) : (s.recordRefusal q).fault = s.fault := rfl
@[simp] theorem State.recordRefusal_refused (s : State) (q : Refusal) : (s.recordRefusal q).refused = some q := rfl
@[simp] theorem State.recordRefusal_program (s : State) (q : Refusal) : (s.recordRefusal q).program = s.program := rfl
@[simp] theorem State.recordRefusal_rdata (s : State) (q : Refusal) : (s.recordRefusal q).rdata = s.rdata := rfl
@[simp] theorem State.recordRefusal_script (s : State) (q : Refusal) : (s.recordRefusal q).script = s.script := rfl
@[simp] theorem State.recordRefusal_tick (s : State) (q : Refusal) : (s.recordRefusal q).tick = s.tick := rfl

@[simp] theorem State.draw_params (s : State) : s.draw.params = s.params := by unfold State.draw; split <;> rfl
@[simp] theorem State.draw_phase (s : State) : s.draw.phase = s.phase := by unfold State.draw; split <;> rfl
@[simp] theorem State.draw_initDone (s : State) : s.draw.initDone = s.initDone := by unfold State.draw; split <;> rfl
@[simp] theorem State.draw_pos (s : State) : s.draw.pos = s.pos := by unfold State.draw; split <;> rfl
@[simp] theorem State.draw_icCon (s : State) : s.draw.icCon = s.icCon := by unfold State.draw; split <;> rfl
@[simp] theorem State.draw_icTar (s : State) : s.draw.icTar = s.icTar := by unfold State.draw; split <;> rfl
@[simp] theorem State.draw_icEnable (s : State) : s.draw.icEnable = s.icEnable := by unfold State.draw; split <;> rfl
@[simp] theorem State.draw_fifo (s : State) : s.draw.fifo = s.fifo := by unfold State.draw; split <;> rfl
@[simp] theorem State.draw_bus (s : State) : s.draw.bus = s.bus := by unfold State.draw; split <;> rfl
@[simp] theorem State.draw_txAbort (s : State) : s.draw.txAbort = s.txAbort := by unfold State.draw; split <;> rfl
@[simp] theorem State.draw_held (s : State) : s.draw.held = s.held := by unfold State.draw; split <;> rfl
@[simp] theorem State.draw_trace (s : State) : s.draw.trace = s.trace := by unfold State.draw; split <;> rfl
@[simp] theorem State.draw_fault (s : State) : s.draw.fault = s.fault := by unfold State.draw; split <;> rfl
@[simp] theorem State.draw_refused (s : State) : s.draw.refused = s.refused := by unfold State.draw; split <;> rfl
@[simp] theorem State.draw_program (s : State) : s.draw.program = s.program := by unfold State.draw; split <;> rfl
@[simp] theorem State.draw_rdata (s : State) : s.draw.rdata = s.rdata := by unfold State.draw; split <;> rfl

theorem State.draw_script (s : State) : s.draw.script = s.script.tail := by
  unfold State.draw; split <;> simp_all

theorem State.choice_cons {s : State} {c : Choice} {cs : List Choice} (h : s.script = c :: cs) : s.choice = c := by
  simp [State.choice, h]

theorem State.draw_cons {s : State} {c : Choice} {cs : List Choice} (h : s.script = c :: cs) :
    s.draw = { s with script := cs } := by
  simp [State.draw, h]

/-! What is computed from the fields depends on these fields alone. -/

theorem State.enabled_congr {s t : State} (h : s.icEnable = t.icEnable) : s.enabled = t.enabled := by
  simp [State.enabled, h]

theorem State.tarAddr_congr {s t : State} (h : s.icTar = t.icTar) : s.tarAddr = t.tarAddr := by
  simp [State.tarAddr, h]

theorem State.activity_congr {s t : State} (hb : s.bus = t.bus) (hh : s.held = t.held) (he : s.icEnable = t.icEnable)
    (ha : s.txAbort = t.txAbort) (hf : s.fifo = t.fifo) : s.activity = t.activity := by
  simp [State.activity, State.enabled_congr he, hb, hh, ha, hf]

@[simp] theorem State.draw_enabled (s : State) : s.draw.enabled = s.enabled := State.enabled_congr (by simp)
@[simp] theorem State.draw_tarAddr (s : State) : s.draw.tarAddr = s.tarAddr := State.tarAddr_congr (by simp)
@[simp] theorem State.draw_tfnf (s : State) : s.draw.tfnf = s.tfnf := by simp [State.tfnf]
@[simp] theorem State.draw_tfe (s : State) : s.draw.tfe = s.tfe := by simp [State.tfe]
@[simp] theorem State.draw_activity (s : State) : s.draw.activity = s.activity :=
  State.activity_congr (by simp) (by simp) (by simp) (by simp) (by simp)
@[simp] theorem State.draw_icStatus (s : State) : s.draw.icStatus = s.icStatus := by
  simp [State.icStatus, State.slvActivity, State.mstActivity, State.rff, State.rfne]
@[simp] theorem State.draw_ctrlEnabled (s : State) : s.draw.ctrlEnabled = s.ctrlEnabled := by simp [State.ctrlEnabled]

/-! The status word by its bits (R29). -/

@[simp] theorem statusActivity_icStatus (s : State) : statusActivity s.icStatus = s.activity := by
  simp only [statusActivity, State.icStatus, State.slvActivity, State.rff, State.rfne, State.mstActivity]
  generalize s.activity = a, s.tfnf = b, s.tfe = c
  revert a b c; decide

@[simp] theorem statusTfnf_icStatus (s : State) : statusTfnf s.icStatus = s.tfnf := by
  simp only [statusTfnf, State.icStatus, State.slvActivity, State.rff, State.rfne, State.mstActivity]
  generalize s.activity = a, s.tfnf = b, s.tfe = c
  revert a b c; decide

end Sys2Proof.Machine
end

