-- ==== Sys2Proof/Laws/Controller.lean ====
section
/-! SUPPORT. What a CTRL step can do (R110 to R115): the fields it never changes, and its cases. -/

namespace Sys2Proof.Machine

@[simp] theorem nackOutcome_params (o : NackChoice) (s : State) : (nackOutcome o s).params = s.params := by
  cases o <;> rfl
@[simp] theorem nackOutcome_phase (o : NackChoice) (s : State) : (nackOutcome o s).phase = s.phase := by
  cases o <;> rfl
@[simp] theorem nackOutcome_initDone (o : NackChoice) (s : State) : (nackOutcome o s).initDone = s.initDone := by
  cases o <;> rfl
@[simp] theorem nackOutcome_pos (o : NackChoice) (s : State) : (nackOutcome o s).pos = s.pos := by
  cases o <;> rfl
@[simp] theorem nackOutcome_icCon (o : NackChoice) (s : State) : (nackOutcome o s).icCon = s.icCon := by
  cases o <;> rfl
@[simp] theorem nackOutcome_icTar (o : NackChoice) (s : State) : (nackOutcome o s).icTar = s.icTar := by
  cases o <;> rfl
@[simp] theorem nackOutcome_icEnable (o : NackChoice) (s : State) : (nackOutcome o s).icEnable = s.icEnable := by
  cases o <;> rfl
@[simp] theorem nackOutcome_fault (o : NackChoice) (s : State) : (nackOutcome o s).fault = s.fault := by
  cases o <;> rfl
@[simp] theorem nackOutcome_refused (o : NackChoice) (s : State) : (nackOutcome o s).refused = s.refused := by
  cases o <;> rfl
@[simp] theorem nackOutcome_program (o : NackChoice) (s : State) : (nackOutcome o s).program = s.program := by
  cases o <;> rfl
@[simp] theorem nackOutcome_rdata (o : NackChoice) (s : State) : (nackOutcome o s).rdata = s.rdata := by
  cases o <;> rfl
@[simp] theorem nackOutcome_script (o : NackChoice) (s : State) : (nackOutcome o s).script = s.script := by
  cases o <;> rfl
@[simp] theorem nackOutcome_tick (o : NackChoice) (s : State) : (nackOutcome o s).tick = s.tick := by
  cases o <;> rfl

@[simp] theorem ctrlStart_params (r : Answer) (o : NackChoice) (s : State) : (ctrlStart r o s).params = s.params := by
  cases r <;> simp [ctrlStart]
@[simp] theorem ctrlStart_phase (r : Answer) (o : NackChoice) (s : State) : (ctrlStart r o s).phase = s.phase := by
  cases r <;> simp [ctrlStart]
@[simp] theorem ctrlStart_initDone (r : Answer) (o : NackChoice) (s : State) : (ctrlStart r o s).initDone = s.initDone := by
  cases r <;> simp [ctrlStart]
@[simp] theorem ctrlStart_pos (r : Answer) (o : NackChoice) (s : State) : (ctrlStart r o s).pos = s.pos := by
  cases r <;> simp [ctrlStart]
@[simp] theorem ctrlStart_icCon (r : Answer) (o : NackChoice) (s : State) : (ctrlStart r o s).icCon = s.icCon := by
  cases r <;> simp [ctrlStart]
@[simp] theorem ctrlStart_icTar (r : Answer) (o : NackChoice) (s : State) : (ctrlStart r o s).icTar = s.icTar := by
  cases r <;> simp [ctrlStart]
@[simp] theorem ctrlStart_icEnable (r : Answer) (o : NackChoice) (s : State) : (ctrlStart r o s).icEnable = s.icEnable := by
  cases r <;> simp [ctrlStart]
@[simp] theorem ctrlStart_fault (r : Answer) (o : NackChoice) (s : State) : (ctrlStart r o s).fault = s.fault := by
  cases r <;> simp [ctrlStart]
@[simp] theorem ctrlStart_refused (r : Answer) (o : NackChoice) (s : State) : (ctrlStart r o s).refused = s.refused := by
  cases r <;> simp [ctrlStart]
@[simp] theorem ctrlStart_program (r : Answer) (o : NackChoice) (s : State) : (ctrlStart r o s).program = s.program := by
  cases r <;> simp [ctrlStart]
@[simp] theorem ctrlStart_rdata (r : Answer) (o : NackChoice) (s : State) : (ctrlStart r o s).rdata = s.rdata := by
  cases r <;> simp [ctrlStart]
@[simp] theorem ctrlStart_script (r : Answer) (o : NackChoice) (s : State) : (ctrlStart r o s).script = s.script := by
  cases r <;> simp [ctrlStart]
@[simp] theorem ctrlStart_tick (r : Answer) (o : NackChoice) (s : State) : (ctrlStart r o s).tick = s.tick := by
  cases r <;> simp [ctrlStart]

@[simp] theorem ctrlRestart_params (r : Answer) (o : NackChoice) (s : State) : (ctrlRestart r o s).params = s.params := by
  cases r <;> simp [ctrlRestart]
@[simp] theorem ctrlRestart_phase (r : Answer) (o : NackChoice) (s : State) : (ctrlRestart r o s).phase = s.phase := by
  cases r <;> simp [ctrlRestart]
@[simp] theorem ctrlRestart_initDone (r : Answer) (o : NackChoice) (s : State) : (ctrlRestart r o s).initDone = s.initDone := by
  cases r <;> simp [ctrlRestart]
@[simp] theorem ctrlRestart_pos (r : Answer) (o : NackChoice) (s : State) : (ctrlRestart r o s).pos = s.pos := by
  cases r <;> simp [ctrlRestart]
@[simp] theorem ctrlRestart_icCon (r : Answer) (o : NackChoice) (s : State) : (ctrlRestart r o s).icCon = s.icCon := by
  cases r <;> simp [ctrlRestart]
@[simp] theorem ctrlRestart_icTar (r : Answer) (o : NackChoice) (s : State) : (ctrlRestart r o s).icTar = s.icTar := by
  cases r <;> simp [ctrlRestart]
@[simp] theorem ctrlRestart_icEnable (r : Answer) (o : NackChoice) (s : State) : (ctrlRestart r o s).icEnable = s.icEnable := by
  cases r <;> simp [ctrlRestart]
@[simp] theorem ctrlRestart_fault (r : Answer) (o : NackChoice) (s : State) : (ctrlRestart r o s).fault = s.fault := by
  cases r <;> simp [ctrlRestart]
@[simp] theorem ctrlRestart_refused (r : Answer) (o : NackChoice) (s : State) : (ctrlRestart r o s).refused = s.refused := by
  cases r <;> simp [ctrlRestart]
@[simp] theorem ctrlRestart_program (r : Answer) (o : NackChoice) (s : State) : (ctrlRestart r o s).program = s.program := by
  cases r <;> simp [ctrlRestart]
@[simp] theorem ctrlRestart_rdata (r : Answer) (o : NackChoice) (s : State) : (ctrlRestart r o s).rdata = s.rdata := by
  cases r <;> simp [ctrlRestart]
@[simp] theorem ctrlRestart_script (r : Answer) (o : NackChoice) (s : State) : (ctrlRestart r o s).script = s.script := by
  cases r <;> simp [ctrlRestart]
@[simp] theorem ctrlRestart_tick (r : Answer) (o : NackChoice) (s : State) : (ctrlRestart r o s).tick = s.tick := by
  cases r <;> simp [ctrlRestart]

@[simp] theorem ctrlData_params (e : Entry) (r : Answer) (o : NackChoice) (s : State) : (ctrlData e r o s).params = s.params := by
  unfold ctrlData; split <;> (try split) <;> simp
@[simp] theorem ctrlData_phase (e : Entry) (r : Answer) (o : NackChoice) (s : State) : (ctrlData e r o s).phase = s.phase := by
  unfold ctrlData; split <;> (try split) <;> simp
@[simp] theorem ctrlData_initDone (e : Entry) (r : Answer) (o : NackChoice) (s : State) : (ctrlData e r o s).initDone = s.initDone := by
  unfold ctrlData; split <;> (try split) <;> simp
@[simp] theorem ctrlData_pos (e : Entry) (r : Answer) (o : NackChoice) (s : State) : (ctrlData e r o s).pos = s.pos := by
  unfold ctrlData; split <;> (try split) <;> simp
@[simp] theorem ctrlData_icCon (e : Entry) (r : Answer) (o : NackChoice) (s : State) : (ctrlData e r o s).icCon = s.icCon := by
  unfold ctrlData; split <;> (try split) <;> simp
@[simp] theorem ctrlData_icTar (e : Entry) (r : Answer) (o : NackChoice) (s : State) : (ctrlData e r o s).icTar = s.icTar := by
  unfold ctrlData; split <;> (try split) <;> simp
@[simp] theorem ctrlData_icEnable (e : Entry) (r : Answer) (o : NackChoice) (s : State) : (ctrlData e r o s).icEnable = s.icEnable := by
  unfold ctrlData; split <;> (try split) <;> simp
@[simp] theorem ctrlData_fault (e : Entry) (r : Answer) (o : NackChoice) (s : State) : (ctrlData e r o s).fault = s.fault := by
  unfold ctrlData; split <;> (try split) <;> simp
@[simp] theorem ctrlData_refused (e : Entry) (r : Answer) (o : NackChoice) (s : State) : (ctrlData e r o s).refused = s.refused := by
  unfold ctrlData; split <;> (try split) <;> simp
@[simp] theorem ctrlData_program (e : Entry) (r : Answer) (o : NackChoice) (s : State) : (ctrlData e r o s).program = s.program := by
  unfold ctrlData; split <;> (try split) <;> simp
@[simp] theorem ctrlData_rdata (e : Entry) (r : Answer) (o : NackChoice) (s : State) : (ctrlData e r o s).rdata = s.rdata := by
  unfold ctrlData; split <;> (try split) <;> simp
@[simp] theorem ctrlData_script (e : Entry) (r : Answer) (o : NackChoice) (s : State) : (ctrlData e r o s).script = s.script := by
  unfold ctrlData; split <;> (try split) <;> simp
@[simp] theorem ctrlData_tick (e : Entry) (r : Answer) (o : NackChoice) (s : State) : (ctrlData e r o s).tick = s.tick := by
  unfold ctrlData; split <;> (try split) <;> simp

@[simp] theorem ctrlStep_params (r : Answer) (o : NackChoice) (s : State) : (ctrlStep r o s).params = s.params := by
  unfold ctrlStep ctrlByte; split <;> (try split) <;> (try split) <;> simp
@[simp] theorem ctrlStep_phase (r : Answer) (o : NackChoice) (s : State) : (ctrlStep r o s).phase = s.phase := by
  unfold ctrlStep ctrlByte; split <;> (try split) <;> (try split) <;> simp
@[simp] theorem ctrlStep_initDone (r : Answer) (o : NackChoice) (s : State) : (ctrlStep r o s).initDone = s.initDone := by
  unfold ctrlStep ctrlByte; split <;> (try split) <;> (try split) <;> simp
@[simp] theorem ctrlStep_pos (r : Answer) (o : NackChoice) (s : State) : (ctrlStep r o s).pos = s.pos := by
  unfold ctrlStep ctrlByte; split <;> (try split) <;> (try split) <;> simp
@[simp] theorem ctrlStep_icCon (r : Answer) (o : NackChoice) (s : State) : (ctrlStep r o s).icCon = s.icCon := by
  unfold ctrlStep ctrlByte; split <;> (try split) <;> (try split) <;> simp
@[simp] theorem ctrlStep_icTar (r : Answer) (o : NackChoice) (s : State) : (ctrlStep r o s).icTar = s.icTar := by
  unfold ctrlStep ctrlByte; split <;> (try split) <;> (try split) <;> simp
@[simp] theorem ctrlStep_icEnable (r : Answer) (o : NackChoice) (s : State) : (ctrlStep r o s).icEnable = s.icEnable := by
  unfold ctrlStep ctrlByte; split <;> (try split) <;> (try split) <;> simp
@[simp] theorem ctrlStep_fault (r : Answer) (o : NackChoice) (s : State) : (ctrlStep r o s).fault = s.fault := by
  unfold ctrlStep ctrlByte; split <;> (try split) <;> (try split) <;> simp
@[simp] theorem ctrlStep_refused (r : Answer) (o : NackChoice) (s : State) : (ctrlStep r o s).refused = s.refused := by
  unfold ctrlStep ctrlByte; split <;> (try split) <;> (try split) <;> simp
@[simp] theorem ctrlStep_program (r : Answer) (o : NackChoice) (s : State) : (ctrlStep r o s).program = s.program := by
  unfold ctrlStep ctrlByte; split <;> (try split) <;> (try split) <;> simp
@[simp] theorem ctrlStep_rdata (r : Answer) (o : NackChoice) (s : State) : (ctrlStep r o s).rdata = s.rdata := by
  unfold ctrlStep ctrlByte; split <;> (try split) <;> (try split) <;> simp
@[simp] theorem ctrlStep_script (r : Answer) (o : NackChoice) (s : State) : (ctrlStep r o s).script = s.script := by
  unfold ctrlStep ctrlByte; split <;> (try split) <;> (try split) <;> simp
@[simp] theorem ctrlStep_tick (r : Answer) (o : NackChoice) (s : State) : (ctrlStep r o s).tick = s.tick := by
  unfold ctrlStep ctrlByte; split <;> (try split) <;> (try split) <;> simp

@[simp] theorem ctrlStep_enabled (r : Answer) (o : NackChoice) (s : State) : (ctrlStep r o s).enabled = s.enabled :=
  State.enabled_congr (by simp)

@[simp] theorem ctrlStep_tarAddr (r : Answer) (o : NackChoice) (s : State) : (ctrlStep r o s).tarAddr = s.tarAddr :=
  State.tarAddr_congr (by simp)

/-- A STALL answer leaves the state unchanged (R115). -/
@[simp] theorem ctrlStep_stall (o : NackChoice) (s : State) : ctrlStep .stall o s = s := by
  unfold ctrlStep ctrlByte; split <;> (try split) <;> (try split) <;> rfl

/-- When CTRL has a step (R112). -/
theorem ctrlEnabled_iff (s : State) : s.ctrlEnabled = true ↔
    s.enabled = true ∧ s.fifo ≠ [] ∧ s.held = false ∧ s.txAbort = false ∧ s.fault = none ∧ s.refused = none := by
  simp only [State.ctrlEnabled, Bool.and_eq_true, decide_eq_true_eq, List.length_pos_iff, Bool.not_eq_true',
    Option.isNone_iff_eq_none, and_assoc]

@[simp] theorem clearHeadRestart_length (q : List Entry) : (clearHeadRestart q).length = q.length := by
  cases q <;> rfl

@[simp] theorem clearHeadRestart_eq_nil {q : List Entry} : clearHeadRestart q = [] ↔ q = [] := by
  cases q <;> simp [clearHeadRestart]

/-- CTRL's step with the bus idle and an entry waiting is C_START (R110). -/
theorem ctrlStep_idle {s : State} (r : Answer) (o : NackChoice) (h : s.bus = .idle) : ctrlStep r o s = ctrlStart r o s := by
  simp [ctrlStep, h]

/-- CTRL's step inside a transaction with the head `e` is C_BYTE (R111). -/
theorem ctrlStep_active {s : State} (r : Answer) (o : NackChoice) {e : Entry} {rest : List Entry} (h : s.bus = .active)
    (hf : s.fifo = e :: rest) : ctrlStep r o s = if e.restart then ctrlRestart r o s else ctrlData e r o s := by
  simp [ctrlStep, ctrlByte, h, hf]

/-- The cases of an enabled CTRL step. -/
theorem ctrlStep_cases {s : State} (h : s.ctrlEnabled = true) (r : Answer) (o : NackChoice) :
    ∃ e rest, s.fifo = e :: rest ∧
      ((s.bus = .idle ∧ ctrlStep r o s = ctrlStart r o s) ∨
       (s.bus = .active ∧ e.restart = true ∧ ctrlStep r o s = ctrlRestart r o s) ∨
       (s.bus = .active ∧ e.restart = false ∧ ctrlStep r o s = ctrlData e r o s)) := by
  obtain ⟨-, hf, -⟩ := (ctrlEnabled_iff s).1 h
  obtain ⟨e, rest, hf⟩ := List.exists_cons_of_ne_nil hf
  refine ⟨e, rest, hf, ?_⟩
  cases hb : s.bus with
  | idle => exact .inl ⟨rfl, ctrlStep_idle r o hb⟩
  | active =>
    have := ctrlStep_active r o hb hf
    cases hr : e.restart <;> simp_all

end Sys2Proof.Machine
end

