-- ==== Sys2Proof/Laws/Ops.lean ====
section
/-! SUPPORT. Inversion of the shared operations: what is the case when one answers a next state. -/

namespace Sys2Proof.Machine

theorem writeRegister_next {r : Option Refusal} {f : Option Fault} {e t : State} (h : writeRegister r f e = .next t) :
    r = none ∧ f = none ∧ t = e := by
  unfold writeRegister at h
  cases r <;> cases f <;> simp_all

theorem thenDo_next {r : Result} {f : State → State} {t : State} (h : thenDo r f = .next t) :
    ∃ u, r = .next u ∧ t = f u := by
  cases r <;> simp_all [thenDo]

theorem recordMark_next {s t : State} {r : Result} (h : recordMark s r = .next t) :
    r = .next t ∨ (∃ f, r = .fault f ∧ t = s.recordFault f) ∨ (∃ q, r = .refused q ∧ t = s.recordRefusal q) := by
  cases r <;> simp_all [recordMark]

/-- Recording a mark always answers a next state. -/
theorem recordMark_is_next (s : State) (r : Result) : ∃ t, recordMark s r = .next t := by
  cases r <;> simp [recordMark]

theorem startTransfers_next {op : Instr} {s t : State} (h : startTransfers op s = .next t) :
    (transfers s.params op = [] ∨ s.phase = .ready) ∧ t = enterTransfer op 0 s := by
  unfold startTransfers at h
  split_ifs at h with hc
  · simp only [Host.Outcome.next.injEq] at h
    refine ⟨?_, h.symm⟩
    by_cases ht : transfers s.params op = []
    · exact .inl ht
    · cases hp : s.phase with
      | uninit => exact absurd ⟨ht, hp⟩ hc
      | ready => exact .inr rfl

/-- Taking an operation refuses nothing, and faults in one way only. -/
theorem startTransfers_fault {op : Instr} {s : State} {f : Fault} (h : startTransfers op s = .fault f) :
    transfers s.params op ≠ [] ∧ s.phase = .uninit ∧ f = .fNotInitialized := by
  unfold startTransfers at h
  split_ifs at h with hc
  simp only [Host.Outcome.fault.injEq] at h
  exact ⟨hc.1, hc.2, h.symm⟩

theorem startTransfers_refused {op : Instr} {s : State} {q : Refusal} : startTransfers op s ≠ .refused q := by
  unfold startTransfers
  split_ifs <;> simp

/-- The start of a transfer is a point of it. -/
theorem transferStart_cases {ts : List (List Byte)} {j : Nat} {k : Point} (h : transferStart ts j = some k) :
    (k = .pollIdle j ∧ ts[j]? = some []) ∨ (k = .pollTfnf j 0 ∧ ∃ b bs, ts[j]? = some (b :: bs)) := by
  unfold transferStart at h
  split at h <;> simp_all

/-- The fields completion may change are the position, the phase and `init_done`. -/
theorem complete_cases (op : Instr) (s : State) :
    (∃ spd a7, op = .initializeOp spd a7 ∧ complete op s = (s.setPhase .ready).setPos .idle) ∨
    (op = .initSequence ∧ complete op s = (s.setInitDone true).setPos .idle) ∨
    ((∀ spd a7, op ≠ .initializeOp spd a7) ∧ op ≠ .initSequence ∧ complete op s = s.setPos .idle) := by
  cases op <;> simp [complete]

theorem enterTransfer_cases (op : Instr) (j : Nat) (s : State) :
    (transferStart (transfers s.params op) j = none ∧ enterTransfer op j s = complete op s) ∨
    (∃ k, transferStart (transfers s.params op) j = some k ∧ enterTransfer op j s = s.setPos (.at op k)) := by
  unfold enterTransfer
  split
  · exact .inl ⟨by assumption, rfl⟩
  · exact .inr ⟨_, by assumption, rfl⟩

@[simp] theorem complete_pos (op : Instr) (s : State) : (complete op s).pos = .idle := by cases op <;> rfl
@[simp] theorem complete_params (op : Instr) (s : State) : (complete op s).params = s.params := by cases op <;> rfl
@[simp] theorem complete_icCon (op : Instr) (s : State) : (complete op s).icCon = s.icCon := by cases op <;> rfl
@[simp] theorem complete_icTar (op : Instr) (s : State) : (complete op s).icTar = s.icTar := by cases op <;> rfl
@[simp] theorem complete_icEnable (op : Instr) (s : State) : (complete op s).icEnable = s.icEnable := by cases op <;> rfl
@[simp] theorem complete_fifo (op : Instr) (s : State) : (complete op s).fifo = s.fifo := by cases op <;> rfl
@[simp] theorem complete_bus (op : Instr) (s : State) : (complete op s).bus = s.bus := by cases op <;> rfl
@[simp] theorem complete_txAbort (op : Instr) (s : State) : (complete op s).txAbort = s.txAbort := by cases op <;> rfl
@[simp] theorem complete_held (op : Instr) (s : State) : (complete op s).held = s.held := by cases op <;> rfl
@[simp] theorem complete_trace (op : Instr) (s : State) : (complete op s).trace = s.trace := by cases op <;> rfl
@[simp] theorem complete_fault (op : Instr) (s : State) : (complete op s).fault = s.fault := by cases op <;> rfl
@[simp] theorem complete_refused (op : Instr) (s : State) : (complete op s).refused = s.refused := by cases op <;> rfl
@[simp] theorem complete_program (op : Instr) (s : State) : (complete op s).program = s.program := by cases op <;> rfl
@[simp] theorem complete_rdata (op : Instr) (s : State) : (complete op s).rdata = s.rdata := by cases op <;> rfl
@[simp] theorem complete_script (op : Instr) (s : State) : (complete op s).script = s.script := by cases op <;> rfl
@[simp] theorem complete_tick (op : Instr) (s : State) : (complete op s).tick = s.tick := by cases op <;> rfl

@[simp] theorem enterTransfer_params (op : Instr) (j : Nat) (s : State) : (enterTransfer op j s).params = s.params := by
  unfold enterTransfer; split <;> simp
@[simp] theorem enterTransfer_icCon (op : Instr) (j : Nat) (s : State) : (enterTransfer op j s).icCon = s.icCon := by
  unfold enterTransfer; split <;> simp
@[simp] theorem enterTransfer_icTar (op : Instr) (j : Nat) (s : State) : (enterTransfer op j s).icTar = s.icTar := by
  unfold enterTransfer; split <;> simp
@[simp] theorem enterTransfer_icEnable (op : Instr) (j : Nat) (s : State) : (enterTransfer op j s).icEnable = s.icEnable := by
  unfold enterTransfer; split <;> simp
@[simp] theorem enterTransfer_fifo (op : Instr) (j : Nat) (s : State) : (enterTransfer op j s).fifo = s.fifo := by
  unfold enterTransfer; split <;> simp
@[simp] theorem enterTransfer_bus (op : Instr) (j : Nat) (s : State) : (enterTransfer op j s).bus = s.bus := by
  unfold enterTransfer; split <;> simp
@[simp] theorem enterTransfer_txAbort (op : Instr) (j : Nat) (s : State) : (enterTransfer op j s).txAbort = s.txAbort := by
  unfold enterTransfer; split <;> simp
@[simp] theorem enterTransfer_held (op : Instr) (j : Nat) (s : State) : (enterTransfer op j s).held = s.held := by
  unfold enterTransfer; split <;> simp
@[simp] theorem enterTransfer_trace (op : Instr) (j : Nat) (s : State) : (enterTransfer op j s).trace = s.trace := by
  unfold enterTransfer; split <;> simp
@[simp] theorem enterTransfer_fault (op : Instr) (j : Nat) (s : State) : (enterTransfer op j s).fault = s.fault := by
  unfold enterTransfer; split <;> simp
@[simp] theorem enterTransfer_refused (op : Instr) (j : Nat) (s : State) : (enterTransfer op j s).refused = s.refused := by
  unfold enterTransfer; split <;> simp
@[simp] theorem enterTransfer_program (op : Instr) (j : Nat) (s : State) : (enterTransfer op j s).program = s.program := by
  unfold enterTransfer; split <;> simp
@[simp] theorem enterTransfer_rdata (op : Instr) (j : Nat) (s : State) : (enterTransfer op j s).rdata = s.rdata := by
  unfold enterTransfer; split <;> simp
@[simp] theorem enterTransfer_script (op : Instr) (j : Nat) (s : State) : (enterTransfer op j s).script = s.script := by
  unfold enterTransfer; split <;> simp
@[simp] theorem enterTransfer_tick (op : Instr) (j : Nat) (s : State) : (enterTransfer op j s).tick = s.tick := by
  unfold enterTransfer; split <;> simp

@[simp] theorem advance_params (op : Instr) (k : Point) (s : State) : (advance op k s).params = s.params := by
  unfold advance; split <;> (try split) <;> simp
@[simp] theorem advance_icCon (op : Instr) (k : Point) (s : State) : (advance op k s).icCon = s.icCon := by
  unfold advance; split <;> (try split) <;> simp
@[simp] theorem advance_icTar (op : Instr) (k : Point) (s : State) : (advance op k s).icTar = s.icTar := by
  unfold advance; split <;> (try split) <;> simp
@[simp] theorem advance_icEnable (op : Instr) (k : Point) (s : State) : (advance op k s).icEnable = s.icEnable := by
  unfold advance; split <;> (try split) <;> simp
@[simp] theorem advance_fifo (op : Instr) (k : Point) (s : State) : (advance op k s).fifo = s.fifo := by
  unfold advance; split <;> (try split) <;> simp
@[simp] theorem advance_bus (op : Instr) (k : Point) (s : State) : (advance op k s).bus = s.bus := by
  unfold advance; split <;> (try split) <;> simp
@[simp] theorem advance_txAbort (op : Instr) (k : Point) (s : State) : (advance op k s).txAbort = s.txAbort := by
  unfold advance; split <;> (try split) <;> simp
@[simp] theorem advance_held (op : Instr) (k : Point) (s : State) : (advance op k s).held = s.held := by
  unfold advance; split <;> (try split) <;> simp
@[simp] theorem advance_trace (op : Instr) (k : Point) (s : State) : (advance op k s).trace = s.trace := by
  unfold advance; split <;> (try split) <;> simp
@[simp] theorem advance_fault (op : Instr) (k : Point) (s : State) : (advance op k s).fault = s.fault := by
  unfold advance; split <;> (try split) <;> simp
@[simp] theorem advance_refused (op : Instr) (k : Point) (s : State) : (advance op k s).refused = s.refused := by
  unfold advance; split <;> (try split) <;> simp
@[simp] theorem advance_program (op : Instr) (k : Point) (s : State) : (advance op k s).program = s.program := by
  unfold advance; split <;> (try split) <;> simp
@[simp] theorem advance_rdata (op : Instr) (k : Point) (s : State) : (advance op k s).rdata = s.rdata := by
  unfold advance; split <;> (try split) <;> simp
@[simp] theorem advance_script (op : Instr) (k : Point) (s : State) : (advance op k s).script = s.script := by
  unfold advance; split <;> (try split) <;> simp
@[simp] theorem advance_tick (op : Instr) (k : Point) (s : State) : (advance op k s).tick = s.tick := by
  unfold advance; split <;> (try split) <;> simp

end Sys2Proof.Machine
end

