-- ==== Sys2Proof/Laws/Exec.lean ====
section
/-! SUPPORT. Inversion of the meanings: what is the case when an instruction answers a next state. -/

namespace Sys2Proof.Machine

theorem exec_strIcCon_next {v : Word} {s t : State} (h : exec (.strIcCon v) s = .next t) :
    conAdmitted v = true ∧ s.enabled = false ∧ t = s.setIcCon (conClearBit10 v) := by
  obtain ⟨h1, h2, h3⟩ := writeRegister_next (by simpa [exec, execStrIcCon] using h)
  simp_all

theorem exec_strIcTar_next {v : Word} {s t : State} (h : exec (.strIcTar v) s = .next t) :
    tarAdmitted v = true ∧ s.enabled = false ∧ t = s.setIcTar v := by
  obtain ⟨h1, h2, h3⟩ := writeRegister_next (by simpa [exec, execStrIcTar] using h)
  simp_all

theorem exec_strIcDataCmd_next {v : Word} {s t : State} (h : exec (.strIcDataCmd v) s = .next t) :
    dataCmdRefusal v s = none ∧ s.enabled = true ∧
      ((s.txAbort = true ∧ t = s) ∨
       (s.txAbort = false ∧ s.fifo.length ≠ s.params.txFifoDepth ∧ t = s.pushEntry (entryOfWord v))) := by
  obtain ⟨h1, h2, h3⟩ := writeRegister_next (by simpa [exec, execStrIcDataCmd] using h)
  refine ⟨h1, ?_⟩
  unfold dataCmdFault at h2
  cases he : s.enabled <;> cases ha : s.txAbort <;> simp_all

theorem exec_strIcEnable_next {v : Word} {s t : State} (h : exec (.strIcEnable v) s = .next t) :
    enableAdmitted v = true ∧
      (enableEnable v = true ∨ (s.bus = .idle ∧ s.held = false ∧ s.fifo = [])) ∧ t = s.setIcEnable v := by
  obtain ⟨h1, h2, h3⟩ := writeRegister_next (by simpa [exec, execStrIcEnable] using h)
  refine ⟨by simp_all, ?_, h3⟩
  cases hv : enableEnable v
  · right
    cases hb : s.bus <;> cases hh : s.held <;> simp_all
  · exact .inl rfl

theorem exec_initialize_next {spd : BitVec 2} {a7 : BitVec 7} {s t : State}
    (h : exec (.initializeOp spd a7) s = .next t) :
    speedAdmitted spd = true ∧ s.phase = .uninit ∧ t = s.setPos (.at (.initializeOp spd a7) (.cfg 0)) := by
  simp only [exec, execInitialize] at h
  split_ifs at h with h1 h2
  refine ⟨h1, ?_, by simp_all⟩
  cases hp : s.phase <;> simp_all

/-- An operation other than INITIALIZE that is taken is entered at its first transfer. -/
theorem exec_transfers_next {op : Instr} {s t : State} (ho : op.isAccess = false)
    (hi : ∀ spd a7, op ≠ .initializeOp spd a7) (h : exec op s = .next t) :
    (transfers s.params op = [] ∨ s.phase = .ready) ∧ t = enterTransfer op 0 s := by
  cases op with
  | initializeOp spd a7 => exact absurd rfl (hi spd a7)
  | sendFramebuffer f =>
    simp only [exec, execSendFramebuffer] at h
    split_ifs at h
    exact startTransfers_next h
  | writeBuffer | sendCommand | sendCommandList | initSequence => exact startTransfers_next h
  | _ => simp [Instr.isAccess] at ho

/-- What a register access never changes. -/
theorem exec_access_frame {i : Instr} {s t : State} (hi : i.isAccess = true) (h : exec i s = .next t) :
    t.params = s.params ∧ t.phase = s.phase ∧ t.initDone = s.initDone ∧ t.pos = s.pos ∧ t.bus = s.bus ∧
    t.txAbort = s.txAbort ∧ t.held = s.held ∧ t.trace = s.trace ∧ t.fault = s.fault ∧ t.refused = s.refused ∧
    t.program = s.program ∧ t.script = s.script ∧ t.tick = s.tick := by
  cases i with
  | ldrIcCon | ldrIcTar | ldrIcEnable | ldrIcStatus =>
    simp only [exec, execLdrIcCon, execLdrIcTar, execLdrIcEnable, execLdrIcStatus, Host.Outcome.next.injEq] at h
    subst h; simp
  | strIcCon v => obtain ⟨-, -, rfl⟩ := exec_strIcCon_next h; simp
  | strIcTar v => obtain ⟨-, -, rfl⟩ := exec_strIcTar_next h; simp
  | strIcDataCmd v => obtain ⟨-, -, ⟨-, rfl⟩ | ⟨-, -, rfl⟩⟩ := exec_strIcDataCmd_next h <;> simp
  | strIcEnable v => obtain ⟨-, -, rfl⟩ := exec_strIcEnable_next h; simp
  | _ => simp [Instr.isAccess] at hi

@[simp] theorem exec_ldrIcStatus (s : State) : exec .ldrIcStatus s = .next (s.setRdata s.icStatus) := rfl

end Sys2Proof.Machine
end

