-- ==== Sys2Proof/Laws/Memory.lean ====
section
/-! SUPPORT. Byte memory: a write keeps the canonical form, is read back, and leaves every other address alone. -/

namespace Sys2Proof.Machine

theorem memoryOk_tail {c : Host.Cell} {m : Memory} (h : memoryOk (c :: m) = true) : memoryOk m = true := by
  cases m with
  | nil => rfl
  | cons d rest => simp only [memoryOk, Bool.and_eq_true] at h; exact h.2

/-- A canonical tail below which `c` lies makes a canonical list. -/
theorem memoryOk_cons {c : Host.Cell} {m : Memory} (hm : memoryOk m = true) (hc : ∀ d ∈ m, c.1 < d.1) :
    memoryOk (c :: m) = true := by
  cases m with
  | nil => rfl
  | cons d rest => simp [memoryOk, hm, hc d]

theorem memoryOk_head_lt {c : Host.Cell} {m : Memory} (h : memoryOk (c :: m) = true) : ∀ d ∈ m, c.1 < d.1 := by
  induction m generalizing c with
  | nil => simp
  | cons e rest ih =>
    simp only [memoryOk, Bool.and_eq_true, decide_eq_true_eq] at h
    intro d hd
    rcases List.mem_cons.1 hd with rfl | hd
    · exact h.1
    · exact lt_trans h.1 (ih h.2 d hd)

/-- Every cell of a written memory is an old cell or the written one. -/
theorem mem_writeByte {m : Memory} {a : Nat} {b : Byte} {d : Host.Cell} (h : d ∈ writeByte m a b) :
    d = (a, b) ∨ d ∈ m := by
  induction m with
  | nil => simpa [writeByte] using h
  | cons c rest ih =>
    unfold writeByte at h
    split_ifs at h
    · simpa using h
    · simp only [List.mem_cons] at h ⊢; tauto
    · simp only [List.mem_cons] at h ⊢; rcases h with h | h
      · tauto
      · rcases ih h with h | h <;> tauto

theorem writeByte_ok {m : Memory} (h : memoryOk m = true) (a : Nat) (b : Byte) : memoryOk (writeByte m a b) = true := by
  induction m with
  | nil => rfl
  | cons c rest ih =>
    have hlt := memoryOk_head_lt h
    unfold writeByte
    split_ifs with h1 h2
    · simp [memoryOk, h1, h]
    · exact memoryOk_cons (memoryOk_tail h) (fun d hd => h2 ▸ hlt d hd)
    · refine memoryOk_cons (ih (memoryOk_tail h)) (fun d hd => ?_)
      rcases mem_writeByte hd with rfl | hd
      · show c.1 < a; omega
      · exact hlt d hd

@[simp] theorem readByte_writeByte_same (m : Memory) (a : Nat) (b : Byte) : readByte (writeByte m a b) a = some b := by
  induction m with
  | nil => simp [writeByte, readByte]
  | cons c rest ih =>
    unfold writeByte
    split_ifs with h1 h2
    · simp [readByte]
    · simp [readByte]
    · simp [readByte, ih, Ne.symm h2]

@[simp] theorem readByte_writeByte_other (m : Memory) {a x : Nat} (b : Byte) (h : x ≠ a) :
    readByte (writeByte m a b) x = readByte m x := by
  induction m with
  | nil => simp [writeByte, readByte, Ne.symm h]
  | cons c rest ih =>
    unfold writeByte
    split_ifs with h1 h2
    · simp [readByte, Ne.symm h]
    · subst h2; simp [readByte, Ne.symm h]
    · by_cases hc : c.1 = x <;> simp [readByte, ih, hc]

end Sys2Proof.Machine
end

