-- ==== Sys2Proof/Laws/Panel.lean ====
section
/-! SUPPORT. The small lemmas of the panel observer: a trace event by event, and what a known and an unknown observer say. -/

namespace Sys2Proof.Machine

@[simp] theorem Observer.event_known (p : Panel) (e : BusEvent) : (Observer.known p).event e = p.event e := rfl

@[simp] theorem Observer.event_unknown (e : BusEvent) : Observer.unknown.event e = .unknown := rfl

@[simp] theorem observeFrom_nil (o : Observer) : observeFrom o [] = o := rfl

@[simp] theorem observeFrom_cons (o : Observer) (e : BusEvent) (trace : List BusEvent) :
    observeFrom o (e :: trace) = observeFrom (o.event e) trace := rfl

theorem observeFrom_append (o : Observer) (first second : List BusEvent) :
    observeFrom o (first ++ second) = observeFrom (observeFrom o first) second := by
  simp only [observeFrom, List.foldl_append]

@[simp] theorem Observer.isKnown_known (p : Panel) : (Observer.known p).isKnown = true := rfl

@[simp] theorem Observer.isKnown_unknown : Observer.unknown.isKnown = false := rfl

@[simp] theorem Observer.says_known {α : Type} (p : Panel) (field : Panel → α) : (Observer.known p).says field = some (field p) := rfl

@[simp] theorem Observer.says_unknown {α : Type} (field : Panel → α) : Observer.unknown.says field = none := rfl

@[simp] theorem Observer.ramByte_known (p : Panel) (page col : Nat) :
    (Observer.known p).ramByte page col = readByte p.ram (ramAddress page col) := rfl

@[simp] theorem Observer.ramByte_unknown (page col : Nat) : Observer.unknown.ramByte page col = none := rfl

end Sys2Proof.Machine
end

