-- ==== Sys2Proof/Laws/PerInstr.lean ====
section
/-! SUPPORT. Facts about every instruction as syntax, one lemma per constructor: its encoding has its format, and leaves the
unused operand slot empty (R83). -/

namespace Sys2Proof.Laws.EncodingShape

/-- Format RA for the accesses and format OP for the operations, with the unused operand slot empty. -/
def Statement (i : Instr) : Prop :=
  (encode i).canonical = true ∧ ((∃ sel w, encode i = .ra sel w) ↔ i.isAccess = true)


theorem ldrIcCon : Statement .ldrIcCon := by simp [Statement, encode, Encoded.canonical, Instr.isAccess]
theorem strIcCon (v : Word) : Statement (.strIcCon v) := by
  simp [Statement, encode, Encoded.canonical, selWrites, Instr.isAccess]
theorem ldrIcTar : Statement .ldrIcTar := by simp [Statement, encode, Encoded.canonical, Instr.isAccess]
theorem strIcTar (v : Word) : Statement (.strIcTar v) := by
  simp [Statement, encode, Encoded.canonical, selWrites, Instr.isAccess]
theorem strIcDataCmd (v : Word) : Statement (.strIcDataCmd v) := by
  simp [Statement, encode, Encoded.canonical, selWrites, Instr.isAccess]
theorem ldrIcEnable : Statement .ldrIcEnable := by simp [Statement, encode, Encoded.canonical, Instr.isAccess]
theorem strIcEnable (v : Word) : Statement (.strIcEnable v) := by
  simp [Statement, encode, Encoded.canonical, selWrites, Instr.isAccess]
theorem ldrIcStatus : Statement .ldrIcStatus := by simp [Statement, encode, Encoded.canonical, Instr.isAccess]
theorem initializeOp (spd : BitVec 2) (a7 : BitVec 7) : Statement (.initializeOp spd a7) := by
  simp [Statement, encode, Encoded.canonical, Instr.isAccess]
theorem writeBuffer (bytes : List Byte) : Statement (.writeBuffer bytes) := by
  simp [Statement, encode, Encoded.canonical, opOpc, Instr.isAccess]
theorem sendCommand (b : Byte) : Statement (.sendCommand b) := by
  simp [Statement, encode, Encoded.canonical, Instr.isAccess]
theorem sendCommandList (bytes : List Byte) : Statement (.sendCommandList bytes) := by
  simp [Statement, encode, Encoded.canonical, opOpc, Instr.isAccess]
theorem sendFramebuffer (bytes : List Byte) : Statement (.sendFramebuffer bytes) := by
  simp [Statement, encode, Encoded.canonical, opOpc, Instr.isAccess]
theorem initSequence : Statement .initSequence := by simp [Statement, encode, Encoded.canonical, Instr.isAccess]

end Sys2Proof.Laws.EncodingShape

namespace Sys2Proof.Machine

/-! The machine's admission tests agree with WellFormed. -/

theorem conAdmitted_eq (v : Word) : conAdmitted v = Instr.conWordOk v := by
  simp only [conAdmitted, Instr.conWordOk, conReserved, conMasterMode, conSpeed, con10BitAddrMaster, conSlaveDisable]
  cases v.getLsbD 0 <;> cases v.getLsbD 4 <;> cases v.getLsbD 6 <;> simp [Bool.and_comm]

theorem tarAdmitted_eq (v : Word) : tarAdmitted v = Instr.tarWordOk v := by
  unfold tarAdmitted Instr.tarWordOk tarReserved tarSpecial tarField
  cases v.getLsbD 11 <;> simp only [Bool.not_true, Bool.not_false, Bool.and_true, Bool.and_false, Bool.false_and]
  exact Bool.and_comm _ _

theorem speedAdmitted_eq (spd : BitVec 2) (a7 : BitVec 7) : speedAdmitted spd = (Instr.initializeOp spd a7).wellFormed := rfl

end Sys2Proof.Machine
end

