-- ==== Sys2Proof/Laws/Step.lean ====
section
/-! SUPPORT. What one step can do, said once. -/

namespace Sys2Proof.Machine

theorem ctrlEnabled_of_stepper {s : State} (h : s.stepper = some .ctrl) : s.ctrlEnabled = true := by
  unfold State.stepper at h
  split at h <;> (try split at h) <;> (try split at h) <;> simp_all

theorem threadEnabled_of_stepper {s : State} (h : s.stepper = some .thread) : s.threadEnabled = true := by
  unfold State.stepper at h
  split at h <;> (try split at h) <;> (try split at h) <;> simp_all

theorem stepper_none_iff {s : State} : s.stepper = none ↔ s.ctrlEnabled = false ∧ s.threadEnabled = false := by
  unfold State.stepper
  cases s.choice.agent <;> cases s.ctrlEnabled <;> cases s.threadEnabled <;> simp

/-- With CTRL disabled an enabled thread has the step, whatever the free choice is. -/
theorem stepper_thread {s : State} (hc : s.ctrlEnabled = false) (ht : s.threadEnabled = true) :
    s.stepper = some .thread := by
  unfold State.stepper
  cases s.choice.agent <;> simp [hc, ht]

/-- A running machine steps by its stepper. -/
theorem step_running {s : State} (h : s.fault = none ∧ s.refused = none) :
    step s = (match s.stepper with
      | some .ctrl => .next (ctrlStep s.choice.answer s.choice.nack s.draw)
      | some .thread => recordMark s.draw (threadStep s.draw)
      | none => .next s.draw) := by
  simp only [step, h.1, h.2] <;> rfl

/-- Every case of a step that answers a next state. -/
theorem step_cases {s t : State} (h : step s = .next t) :
    (s.fault = none ∧ s.refused = none) ∧
    ((s.stepper = some .ctrl ∧ s.ctrlEnabled = true ∧ t = ctrlStep s.choice.answer s.choice.nack s.draw) ∨
     (s.stepper = some .thread ∧ s.threadEnabled = true ∧ threadStep s.draw = .next t) ∨
     (s.stepper = some .thread ∧ s.threadEnabled = true ∧
       ∃ f, threadStep s.draw = .fault f ∧ t = s.draw.recordFault f) ∨
     (s.stepper = some .thread ∧ s.threadEnabled = true ∧
       ∃ q, threadStep s.draw = .refused q ∧ t = s.draw.recordRefusal q) ∨
     (s.stepper = none ∧ t = s.draw)) := by
  have hr : s.fault = none ∧ s.refused = none := by
    unfold step at h
    split at h <;> simp_all
  refine ⟨hr, ?_⟩
  rw [step_running hr] at h
  cases hs : s.stepper with
  | none => simp_all
  | some a =>
    cases a with
    | ctrl => simp_all [ctrlEnabled_of_stepper hs]
    | thread =>
      rw [hs] at h
      have ht := threadEnabled_of_stepper hs
      rcases recordMark_next h with h | h | h
      · exact .inr (.inl ⟨rfl, ht, h⟩)
      · exact .inr (.inr (.inl ⟨rfl, ht, h⟩))
      · exact .inr (.inr (.inr (.inl ⟨rfl, ht, h⟩)))

/-- A running machine always has a next state. -/
theorem step_is_next {s : State} (h : s.fault = none ∧ s.refused = none) : ∃ t, step s = .next t := by
  rw [step_running h]
  split
  · exact ⟨_, rfl⟩
  · exact recordMark_is_next _ _
  · exact ⟨_, rfl⟩

theorem seqStep_next {op : Instr} {k : Point} {s t : State} (h : seqStep op k s = .next t) :
    (accessAt s.params op k = none ∧ t = s) ∨
    ∃ i u, accessAt s.params op k = some i ∧ exec i s = .next u ∧ t = advance op k u := by
  unfold seqStep at h
  split at h
  · exact .inl ⟨by assumption, by simpa using h.symm⟩
  · obtain ⟨u, hu, rfl⟩ := thenDo_next h
    exact .inr ⟨_, u, by assumption, hu, rfl⟩

theorem rawStep_next {a : Access} {rest : List Access} {s t : State} (h : rawStep a rest s = .next t) :
    ∃ i u, decodeAccess s.params.i2cBase a = .ok i ∧ exec i s = .next u ∧
      ((accessDone a u.rdata = true ∧ t = u.setPos (rawPos rest)) ∨ (accessDone a u.rdata = false ∧ t = u)) := by
  obtain ⟨u, hu, rfl⟩ := thenDo_next h
  unfold execDecoded at hu
  split at hu
  · rename_i i hi
    refine ⟨i, u, hi, hu, ?_⟩
    cases hd : accessDone a u.rdata <;> simp
  · simp at hu

/-- A raw program's element that decodes decodes to a register access. -/
theorem decodeAccess_isAccess {base : Word} {a : Access} {i : Instr} (h : decodeAccess base a = .ok i) :
    i.isAccess = true := by
  have hra : ∀ sel w, decodeRa sel w = .ok i → i.isAccess = true := by
    intro sel w hd
    unfold decodeRa at hd
    split_ifs at hd <;> simp only [Except.ok.injEq] at hd <;> subst hd <;> rfl
  cases a with
  | ra sel w => exact hra sel w h
  | bus addr n wr w =>
    simp only [decodeAccess, decodeAddress] at h
    split at h
    · exact hra _ w h
    · simp at h
  | push | pushStop | pollTfnf | pollIdle =>
    simp only [decodeAccess, Except.ok.injEq] at h
    subst h; rfl

/-- The access at a point of an operation is a register access. -/
theorem accessAt_isAccess {p : Params} {op i : Instr} {k : Point} (h : accessAt p op k = some i) : i.isAccess = true := by
  cases k with
  | cfg n =>
    cases op with
    | initializeOp spd a7 =>
      simp only [accessAt, cfgAccesses, initializeAccesses] at h
      match n, h with
      | 0, h | 1, h | 2, h | 3, h => simp at h; subst h; rfl
      | n + 4, h => simp at h
    | _ => simp [accessAt, cfgAccesses] at h
  | pollTfnf j i' =>
    simp only [accessAt] at h
    split at h
    · simp at h
    · split_ifs at h; simp at h; subst h; rfl
  | push j i' =>
    simp only [accessAt] at h
    split at h
    · simp at h
    · unfold pushAccess at h
      split at h
      · simp at h
      · simp at h; subst h; rfl
  | pollIdle j =>
    simp only [accessAt] at h
    split_ifs at h; simp at h; subst h; rfl

/-- The cases of CALLER's step. -/
theorem callerStep_next {s t : State} (h : callerStep s = .next t) :
    (s.program = .done ∧ t = s) ∨
    (∃ w a rest i, s.program = .request w a rest ∧ decode (.op w a) = .ok i ∧ exec i (s.setProgram rest) = .next t) ∨
    (∃ body rest, s.program = .repeatN 0 body rest ∧ t = s.setProgram rest) ∨
    (∃ n body rest, s.program = .repeatN (n + 1) body rest ∧ t = s.setProgram (body.andThen (.repeatN n body rest))) ∨
    (∃ body rest, s.program = .forever body rest ∧ t = s.setProgram (body.andThen (.forever body rest))) ∨
    (∃ as rest, s.program = .raw as rest ∧ t = (s.setProgram rest).setPos (rawPos as)) := by
  unfold callerStep at h
  split at h
  · simp_all
  · rename_i w a rest hp
    unfold execDecoded at h
    split at h
    · rename_i i hd
      exact .inr (.inl ⟨w, a, rest, i, hp, hd, h⟩)
    · simp at h
  · simp_all
  · simp_all
  · simp_all
  · simp_all

/-- An OP word that decodes decodes to an operation request. -/
theorem decodeOp_isOperation {w : BitVec 16} {a : List Byte} {i : Instr} (h : decode (.op w a) = .ok i) :
    i.isAccess = false := by
  simp only [decode, decodeOp] at h
  split_ifs at h <;> simp only [Except.ok.injEq] at h <;> subst h <;> rfl

end Sys2Proof.Machine
end

