-- ==== Sys2Proof/Tests/Slice0.lean ====
section
/-! SUPPORT. The model's own tests: the WellFormed smoke, decoding of words written out from R70, R71, R78 and R79, single
steps from the vectors L2-R, L2-C, L2-E, L2-P and L2-O of 95_test_vectors.md, and a witness for the hypotheses of every
obligation that has any. -/

namespace Sys2Proof.Tests

open Sys2Proof.Machine

/-! ### Helpers -/

/-- A next state with a property. -/
def nextIs (r : Result) (p : State → Bool) : Bool :=
  match r with
  | .next t => p t
  | .fault _ => false
  | .refused _ => false

/-- A fault by its name. -/
def faultIs (r : Result) (f : Fault) : Bool :=
  match r with
  | .fault g => f == g
  | .next _ => false
  | .refused _ => false

/-- A refusal by its name. -/
def refusedIs (r : Result) (q : Refusal) : Bool :=
  match r with
  | .refused p => q == p
  | .next _ => false
  | .fault _ => false

/-- `Ready` of the vectors: after INITIALIZE 2, 0x3C. -/
def ready : State := { State.reset with phase := .ready, icTar := 0x3C#32, icEnable := 1#32 }

/-- An entry. -/
def entry (b : Byte) (stop restart : Bool) : Entry := { dat := b, stop := stop, restart := restart }

/-- `n` plain entries. -/
def entries (n : Nat) : List Entry := List.replicate n (entry 0x80#8 false false)

/-- A state whose next step is offered to the thread. -/
def onThread (s : State) : State := { s with script := [threadChoice] }

/-- A state whose next step is offered to CTRL, with the answer it draws. -/
def onCtrl (r : Answer) (o : NackChoice) (s : State) : State := { s with script := [{ agent := .ctrl, answer := r, nack := o }] }

/-- One acknowledged transaction to 0x3C. -/
def tr (payload : List Byte) : List BusEvent := transactionEvents 0x3C#7 payload

/-- The panel at reset, but in horizontal mode at a place. -/
def horizontalAt (col page : Nat) : Panel := { Panel.reset with mode := .horizontal, col := col, page := page }

/-! ### WellFormed: for each check an ill-formed term, which it refuses (R25 to R28, R140, R167) -/

theorem test_wf_con_reserved : (Instr.strIcCon 0x865#32).wellFormed = false := by decide
theorem test_wf_con_master : (Instr.strIcCon 0x64#32).wellFormed = false := by decide
theorem test_wf_con_speed : (Instr.strIcCon 0x67#32).wellFormed = false ∧ (Instr.strIcCon 0x61#32).wellFormed = false := by
  decide
theorem test_wf_con_10bit : (Instr.strIcCon 0x75#32).wellFormed = false := by decide
theorem test_wf_con_slave : (Instr.strIcCon 0x25#32).wellFormed = false := by decide
theorem test_wf_tar_width : (Instr.strIcTar 0x80#32).wellFormed = false := by decide
theorem test_wf_tar_special : (Instr.strIcTar 0x83C#32).wellFormed = false := by decide
theorem test_wf_tar_reserved : (Instr.strIcTar 0x1000#32).wellFormed = false := by decide
theorem test_wf_data_cmd_read : (Instr.strIcDataCmd 0x100#32).wellFormed = false := by decide
theorem test_wf_data_cmd_reserved : (Instr.strIcDataCmd 0x800#32).wellFormed = false := by decide
theorem test_wf_enable : (Instr.strIcEnable 0x2#32).wellFormed = false ∧ (Instr.strIcEnable 0x5#32).wellFormed = false := by
  decide
theorem test_wf_speed : (Instr.initializeOp 3#2 0x3C#7).wellFormed = false ∧ (Instr.initializeOp 0#2 0x3C#7).wellFormed = false := by
  decide
theorem test_wf_framebuffer : (Instr.sendFramebuffer [0x00#8]).wellFormed = false := by decide
theorem test_wf_admits : (Instr.strIcCon 0x65#32).wellFormed = true ∧ (Instr.strIcTar 0x7F#32).wellFormed = true ∧
    (Instr.strIcDataCmd 0x6AE#32).wellFormed = true ∧ (Instr.strIcEnable 1#32).wellFormed = true := by decide

/-! ### Decoding: words written out from R70 (W, OFF) and R71 (MBZ, A7 or B8, SPD, OPC) -/

/-- `W = 0`, `OFF = 0x00`. -/
theorem test_decode_ldr_ic_con : decode (.ra 0b000000000#9 0) = .ok .ldrIcCon := rfl
/-- `W = 1`, `OFF = 0x00`. -/
theorem test_decode_str_ic_con : decode (.ra 0b100000000#9 0x65#32) = .ok (.strIcCon 0x65#32) := rfl
/-- `W = 0`, `OFF = 0x04`. -/
theorem test_decode_ldr_ic_tar : decode (.ra 0b000000100#9 0) = .ok .ldrIcTar := rfl
/-- `W = 1`, `OFF = 0x04`. -/
theorem test_decode_str_ic_tar : decode (.ra 0b100000100#9 0x3C#32) = .ok (.strIcTar 0x3C#32) := rfl
/-- `W = 1`, `OFF = 0x10`. -/
theorem test_decode_str_ic_data_cmd : decode (.ra 0b100010000#9 0x2AE#32) = .ok (.strIcDataCmd 0x2AE#32) := rfl
/-- `W = 0`, `OFF = 0x6C`. -/
theorem test_decode_ldr_ic_enable : decode (.ra 0b001101100#9 0) = .ok .ldrIcEnable := rfl
/-- `W = 1`, `OFF = 0x6C`. -/
theorem test_decode_str_ic_enable : decode (.ra 0b101101100#9 1#32) = .ok (.strIcEnable 1#32) := rfl
/-- `W = 0`, `OFF = 0x70`. -/
theorem test_decode_ldr_ic_status : decode (.ra 0b001110000#9 0) = .ok .ldrIcStatus := rfl
/-- MBZ 0000, A7 0111100, SPD 10, OPC 000. -/
theorem test_decode_initialize : decode (.op 0b0000011110010000#16 []) = .ok (.initializeOp 2#2 0x3C#7) := rfl
/-- MBZ 0, OPC 001. -/
theorem test_decode_write_buffer : decode (.op 0b0000000000000001#16 [0x55#8]) = .ok (.writeBuffer [0x55#8]) := rfl
/-- MBZ 00000, B8 10101110, OPC 010. -/
theorem test_decode_send_command : decode (.op 0b0000010101110010#16 []) = .ok (.sendCommand 0xAE#8) := rfl
/-- MBZ 0, OPC 011. -/
theorem test_decode_send_command_list : decode (.op 0b0000000000000011#16 [0x81#8]) = .ok (.sendCommandList [0x81#8]) := rfl
/-- MBZ 0, OPC 100. -/
theorem test_decode_send_framebuffer : decode (.op 0b0000000000000100#16 [0x00#8]) = .ok (.sendFramebuffer [0x00#8]) := rfl
/-- MBZ 0, OPC 101. -/
theorem test_decode_init_sequence : decode (.op 0b0000000000000101#16 []) = .ok .initSequence := rfl
/-- L2-R7: LDR IC_DATA_CMD, STR IC_STATUS, a misaligned offset, an offset outside the map. -/
theorem test_decode_ra_refused : decode (.ra 0x010#9 0) = .error .readback ∧ decode (.ra 0x170#9 0) = .error .unmodelled ∧
    decode (.ra 0x072#9 0) = .error .unmodelled ∧ decode (.ra 0x07C#9 0) = .error .unmodelled := ⟨rfl, rfl, rfl, rfl⟩
/-- L2-E2: nonzero MBZ bits and the two reserved OPC. -/
theorem test_decode_op_refused : decode (.op 0x1790#16 []) = .error .reservedOp ∧ decode (.op 0x0802#16 []) = .error .reservedOp ∧
    decode (.op 0x0009#16 []) = .error .reservedOp ∧ decode (.op 0x0006#16 []) = .error .reservedOp ∧
    decode (.op 0x0007#16 []) = .error .reservedOp := ⟨rfl, rfl, rfl, rfl, rfl⟩
/-- R140: the OP words of L2-E1. -/
theorem test_encode_initialize : encode (.initializeOp 2#2 0x7F#7) = .op 0x0FF0#16 [] ∧
    encode (.initializeOp 1#2 0x3C#7) = .op 0x0788#16 [] := by decide
/-- R62: the base's alias and a 16-bit access have no selector. -/
theorem test_decode_address : decodeAddress 0x40044000#32 0x4004406C#32 4 true 1#32 = .ok (.strIcEnable 1#32) ∧
    decodeAddress 0x40044000#32 0x4004506C#32 4 true 1#32 = .error .unmodelled ∧
    decodeAddress 0x40044000#32 0x4004406C#32 2 true 1#32 = .error .unmodelled := ⟨rfl, rfl, rfl⟩
theorem test_table_word : decodeTableWord 16 0x16C = some (.strIcEnable 0) ∧ decodeTableWord 16 0x790 = some (.initializeOp 2#2 0x3C#7) ∧
    decodeTableWord 16 0x5 = some .initSequence := by decide
theorem test_step_runs_a_table_word :
    nextIs (step (State.reset.withFetchWord 16 0x790)) (fun t => t.pos == .at (.initializeOp 2#2 0x3C#7) (.cfg 0)) = true := by decide
theorem test_step_runs_a_table_access :
    nextIs (step (State.reset.withFetchWord 16 0x070)) (fun t => t.rdata == 0x06#32 && t.pos == .idle) = true := by decide

/-! ### Register accesses (L2-R) -/

theorem test_ldr_ic_con : nextIs (exec .ldrIcCon { ready with icCon := 0x465#32 }) (fun t => t.rdata == 0x65#32) = true := by decide
theorem test_ldr_ic_tar : nextIs (exec .ldrIcTar ready) (fun t => t.rdata == 0x3C#32) = true := by decide
theorem test_ldr_ic_enable : nextIs (exec .ldrIcEnable ready) (fun t => t.rdata == 1#32) = true := by decide
/-- L2-R1, the rows with TX_FIFO_DEPTH 16. -/
theorem test_status_values :
    [State.reset, ready, { ready with fifo := entries 1 }, { ready with fifo := entries 15, bus := .active },
     { ready with fifo := entries 16 }, { ready with bus := .active }, { ready with held := true, bus := .active },
     { ready with txAbort := true }].map State.icStatus
      = [0x06#32, 0x06#32, 0x23#32, 0x23#32, 0x21#32, 0x27#32, 0x27#32, 0x06#32] := by decide
/-- L2-R1, the row with TX_FIFO_DEPTH 1. -/
theorem test_status_depth_one :
    nextIs (exec .ldrIcStatus { ready with params := { defaultParams with txFifoDepth := 1 }, fifo := entries 1 })
      (fun t => t.rdata == 0x21#32) = true := by decide
theorem test_str_ic_con : nextIs (exec (.strIcCon 0x465#32) State.reset) (fun t => t.icCon == 0x65#32) = true ∧
    nextIs (exec (.strIcCon 0x1E5#32) State.reset) (fun t => t.icCon == 0x1E5#32) = true := by decide
theorem test_str_ic_con_stops : faultIs (exec (.strIcCon 0x65#32) ready) .fCfgWhileEnabled = true ∧
    refusedIs (exec (.strIcCon 0x0#32) ready) .qConField = true := by decide
theorem test_str_ic_tar : nextIs (exec (.strIcTar 0x43C#32) State.reset) (fun t => t.icTar == 0x43C#32 && t.tarAddr == 0x3C#7) = true := by
  decide
theorem test_str_ic_tar_stops : refusedIs (exec (.strIcTar 0x80#32) State.reset) .qTarField = true ∧
    faultIs (exec (.strIcTar 0x3D#32) ready) .fCfgWhileEnabled = true := by decide
theorem test_str_ic_data_cmd : nextIs (exec (.strIcDataCmd 0x6AE#32) ready) (fun t => t.fifo == [entry 0xAE#8 true true]) = true ∧
    nextIs (exec (.strIcDataCmd 0x080#32) { ready with txAbort := true }) (fun t => t.fifo == []) = true := by decide
theorem test_str_ic_data_cmd_stops : refusedIs (exec (.strIcDataCmd 0x900#32) ready) .qReadback = true ∧
    refusedIs (exec (.strIcDataCmd 0x80000000#32) ready) .qReserved = true ∧
    refusedIs (exec (.strIcDataCmd 0x4AE#32) { ready with icCon := 0x45#32 }) .qRestartDisabled = true ∧
    refusedIs (exec (.strIcDataCmd 0x100#32) State.reset) .qReadback = true ∧
    faultIs (exec (.strIcDataCmd 0x080#32) State.reset) .fPushDisabled = true ∧
    faultIs (exec (.strIcDataCmd 0x080#32) { ready with fifo := entries 16 }) .fPushFull = true := by decide
theorem test_str_ic_enable : nextIs (exec (.strIcEnable 1#32) State.reset) (fun t => t.icEnable == 1#32) = true ∧
    nextIs (exec (.strIcEnable 0#32) ready) (fun t => t.icEnable == 0#32) = true := by decide
theorem test_str_ic_enable_stops : refusedIs (exec (.strIcEnable 2#32) ready) .qEnableField = true ∧
    faultIs (exec (.strIcEnable 0#32) { ready with fifo := entries 1 }) .fDisableActive = true ∧
    faultIs (exec (.strIcEnable 0#32) { ready with bus := .active }) .fDisableActive = true ∧
    faultIs (exec (.strIcEnable 0#32) { ready with held := true }) .fDisableActive = true := by decide

/-! ### Controller steps (L2-C) -/

/-- S3. -/
theorem test_ctrl_start_abort :
    nextIs (step (onCtrl .nack .abort { ready with fifo := [entry 0x80#8 false false] }))
      (fun t => t.trace == [.start, .addr 0x3C#7 false .nack, .stop] && t.fifo == [] && t.bus == .idle && t.txAbort) = true := by
  decide
/-- S4. -/
theorem test_ctrl_start_hold :
    nextIs (step (onCtrl .nack .hold { ready with fifo := [entry 0x80#8 false false] }))
      (fun t => t.trace == [.start, .addr 0x3C#7 false .nack] && t.bus == .active && t.held && t.icStatus == 0x23#32) = true := by
  decide
/-- S6. -/
theorem test_ctrl_byte_stop :
    nextIs (step (onCtrl .ack .hold { ready with bus := .active, fifo := [entry 0xAE#8 true false] }))
      (fun t => t.trace == [.data 0xAE#8 .ack, .stop] && t.fifo == [] && t.bus == .idle && t.icStatus == 0x06#32) = true := by
  decide
/-- S7 and S8. -/
theorem test_ctrl_restart :
    nextIs (step (onCtrl .ack .hold { ready with bus := .active, fifo := [entry 0xAE#8 false true] }))
      (fun t => t.trace == [.restart, .addr 0x3C#7 false .ack] && t.fifo == [entry 0xAE#8 false false]) = true ∧
    nextIs (step (onCtrl .ack .hold { ready with fifo := [entry 0xAE#8 false true] }))
      (fun t => t.trace == [.start, .addr 0x3C#7 false .ack] && t.fifo == [entry 0xAE#8 false false]) = true := by decide
/-- S9. -/
theorem test_ctrl_data_abort :
    nextIs (step (onCtrl .nack .abort { ready with bus := .active, fifo := [entry 0x80#8 false false, entry 0xAE#8 true false] }))
      (fun t => t.trace == [.data 0x80#8 .nack, .stop] && t.fifo == [] && t.bus == .idle && t.txAbort) = true := by decide
/-- S10. -/
theorem test_ctrl_data_hold :
    nextIs (step (onCtrl .nack .hold { ready with bus := .active, fifo := [entry 0x80#8 false false] }))
      (fun t => t.trace == [.data 0x80#8 .nack] && t.fifo == [] && t.held && t.icStatus == 0x27#32) = true := by decide
/-- S11 and S12. -/
theorem test_ctrl_has_no_step : { ready with bus := .active }.ctrlEnabled = false ∧
    { ready with icEnable := 0#32, fifo := entries 1 }.ctrlEnabled = false := by decide

/-! ### The operations (L2-E, L2-P), each in the step that takes it, and SEQ's moves -/

/-- L2-E1: Q_SPEED comes before F_REINIT; L2-E3. -/
theorem test_initialize_stops : refusedIs (exec (.initializeOp 0#2 0x3C#7) ready) .qSpeed = true ∧
    faultIs (exec (.initializeOp 2#2 0x3C#7) ready) .fReinit = true := by decide
/-- L2-E1: the four accesses of INITIALIZE 1, 0x3C. -/
theorem test_initialize_accesses :
    [0, 1, 2, 3, 4].map (fun n => accessAt defaultParams (.initializeOp 1#2 0x3C#7) (.cfg n))
      = [some (.strIcEnable 0#32), some (.strIcCon 0x63#32), some (.strIcTar 0x3C#32), some (.strIcEnable 1#32), none] := by decide
/-- L2-E4 and L2-E5. -/
theorem test_write_buffer : faultIs (exec (.writeBuffer [0x80#8, 0xAE#8]) State.reset) .fNotInitialized = true ∧
    nextIs (exec (.writeBuffer []) ready) (fun t => t.pos == .at (.writeBuffer []) (.pollIdle 0)) = true := by decide
/-- L2-E5: the pushes of `[0x80, 0xAE]`. -/
theorem test_write_buffer_pushes :
    [0, 1, 2].map (fun i => accessAt defaultParams (.writeBuffer [0x80#8, 0xAE#8]) (.push 0 i))
      = [some (.strIcDataCmd 0x080#32), some (.strIcDataCmd 0x2AE#32), none] := by decide
theorem test_send_command : faultIs (exec (.sendCommand 0xAE#8) State.reset) .fNotInitialized = true ∧
    nextIs (exec (.sendCommand 0x40#8) ready) (fun t => transfers t.params (.sendCommand 0x40#8) == [[0x80#8, 0x40#8]]) = true := by
  decide
theorem test_send_command_list : nextIs (exec (.sendCommandList []) State.reset) (fun t => t.pos == .idle && t.phase == .uninit) = true ∧
    transfers defaultParams (.sendCommandList [0x81#8, 0x7F#8]) = [[0x80#8, 0x81#8], [0x80#8, 0x7F#8]] := by decide
/-- L2-P: INIT_SEQUENCE with an empty table completes with `init_done` set. -/
theorem test_init_sequence : faultIs (exec .initSequence State.reset) .fNotInitialized = true ∧
    nextIs (exec .initSequence { ready with params := { defaultParams with initTable := [] } }) (fun t => t.initDone) = true := by decide
/-- L2-E4 and L2-P: the length is checked before the phase. -/
theorem test_send_framebuffer : refusedIs (exec (.sendFramebuffer [0x00#8]) State.reset) .qFbLength = true ∧
    refusedIs (exec (.sendFramebuffer []) ready) .qFbLength = true := by decide
/-- R166 and R165: the default parameters are admitted. -/
theorem test_params : paramsOk defaultParams = true ∧ initTableRef.length = 17 ∧ addrTable.length = 6 := by decide
/-- R38 and R6: INITIALIZE of the display core's own constants has the word 0x0790 of R140. -/
theorem test_constants : encode (.initializeOp speed targetAddr) = .op 0x0790#16 [] ∧ initializePseudo targetAddr = .initializeOp 2#2 0x3C#7 := by
  decide
/-- R164: an order broken, an argument missing, an unlisted byte. -/
theorem test_init_table_refused : initTableOk [] = false ∧ initTableOk initTableRef.reverse = false ∧
    initTableOk (initTableRef ++ [0x81#8]) = false ∧ initTableOk (0xE3#8 :: initTableRef) = false := by decide
/-- R148: a failed poll stays at its own read. -/
theorem test_poll_repeats :
    nextIs (step (onThread { ready with fifo := entries 16, pos := .at (.sendCommand 0xAE#8) (.pollTfnf 0 1) }))
      (fun t => t.pos == .at (.sendCommand 0xAE#8) (.pollTfnf 0 1) && t.rdata == 0x21#32) = true := by decide
/-- R163: the poll that ends the last transfer of INIT_SEQUENCE completes it. -/
theorem test_init_sequence_completes :
    nextIs (step (onThread { ready with pos := .at .initSequence (.pollIdle 16) })) (fun t => t.initDone && t.pos == .idle) = true := by
  decide
/-- R205: the step that faults records the mark and nothing else, and the run is then stopped. -/
theorem test_mark_recorded :
    nextIs (step (onThread { State.reset with program := .request 0x0572#16 [] .done }))
      (fun t => t.fault == some .fNotInitialized && t.program == .request 0x0572#16 [] .done && faultIs (step t) .fNotInitialized) = true := by
  decide
/-- R170. -/
theorem test_repeat_zero :
    nextIs (step (onThread { ready with program := .repeatN 0 (.request 5#16 [] .done) .done })) (fun t => t.program == .done) = true := by
  decide

/-! ### The panel observer (L2-O) -/

theorem test_panel_o1 : observe (tr [0x80#8, 0xAF#8]) = .known { Panel.reset with displayOn := true } := by decide
theorem test_panel_o2 : observe (tr [0x40#8, 0x55#8]) = .unknown := by decide
theorem test_panel_o3 : (observe (tr [0x80#8, 0x20#8] ++ tr [0x80#8, 0x00#8])).says Panel.mode = some .horizontal := by decide
theorem test_panel_o4_o5 : observe (tr [0x80#8, 0x81#8, 0x7F#8]) = .unknown ∧
    observe (tr [0x00#8, 0x81#8, 0x7F#8]) = Observer.reset := by decide
theorem test_panel_o6 : observeFrom (.known (horizontalAt 127 7)) (tr [0x40#8, 0xAA#8]) =
    .known { horizontalAt 0 0 with ram := [(1023, 0xAA#8)] } := by
  decide
theorem test_panel_o7 : observeFrom (.known (horizontalAt 127 3)) (tr [0x40#8, 0xAA#8]) =
    .known { horizontalAt 0 4 with ram := [(511, 0xAA#8)] } := by
  decide
theorem test_panel_o8 : observe (tr [0x80#8, 0xE3#8]) = .unknown := by decide
theorem test_panel_o9 : observeFrom (.known (horizontalAt 5 0)) (tr [0xC0#8, 0x11#8]) =
    .known { horizontalAt 6 0 with ram := [(5, 0x11#8)] } := by decide
theorem test_panel_o10 : observe [.start, .addr 0x3C#7 false .ack, .data 0x80#8 .nack, .stop] = .unknown := by decide

/-! ### The written form (R84 to R88) -/

theorem test_assemble_p1 : assemble [] "INITIALIZE 2, 0x3C\nSEND_COMMAND 0xAE" =
    some (.request 0x0790#16 [] (.request 0x0572#16 [] .done)) := by decide
theorem test_assemble_pseudo : assemble [] "INITIALIZE 60 WRITE_BUFFER [0x00]*3" =
    some (.request 0x0790#16 [] (.request 0x0001#16 [0x00#8, 0x00#8, 0x00#8] .done)) := by decide
theorem test_assemble_refused : assemble [] "SEND_COMMAND 256" = none ∧ assemble [] "JUMP 3" = none := by decide

/-! ### Witnesses: a state and operands that meet the hypotheses of each obligation, clause by clause -/

theorem witness_OtherSelectorsAreRefused :
    0x010#9 ∉ [0x000#9, 0x100#9, 0x004#9, 0x104#9, 0x110#9, 0x06C#9, 0x16C#9, 0x070#9] ∧
    0x001#9 ∉ [0x000#9, 0x100#9, 0x004#9, 0x104#9, 0x110#9, 0x06C#9, 0x16C#9, 0x070#9] ∧
    0x1FF#9 ∉ [0x000#9, 0x100#9, 0x004#9, 0x104#9, 0x110#9, 0x06C#9, 0x16C#9, 0x070#9] := by decide
theorem witness_OperationWordsDecodeExactlyByTheirRows :
    (∃ r ∈ opRows, r.fits (0x0FF8#16).toNat = true) ∧ (∃ r ∈ opRows, r.fits (0x07FA#16).toNat = true) ∧
    (∀ r ∈ opRows, r.fits (0x1000#16).toNat = false) ∧ (∀ r ∈ opRows, r.fits (0x0006#16).toNat = false) := by decide
theorem witness_EncodeOfDecodeIsTheRequest :
    (Encoded.op 0x0001#16 [0x55#8]).canonical = true ∧ decode (.op 0x0001#16 [0x55#8]) = .ok (.writeBuffer [0x55#8]) ∧
    (Encoded.ra 0x100#9 0x65#32).canonical = true ∧ decode (.ra 0x100#9 0x65#32) = .ok (.strIcCon 0x65#32) :=
  ⟨by decide, rfl, by decide, rfl⟩
theorem witness_AccessesOutsideTheMapAreRefused :
    ((2 : Nat) ≠ 4) ∧ (0x40044071#32 - 0x40044000#32).toNat ∉ [0x00, 0x04, 0x10, 0x6C, 0x70] ∧
    (0x40044100#32 - 0x40044000#32).toNat ∉ [0x00, 0x04, 0x10, 0x6C, 0x70] ∧
    (0x40043FFC#32 - 0x40044000#32).toNat ∉ [0x00, 0x04, 0x10, 0x6C, 0x70] := by decide

/-- A machine at launch about to take a request. -/
def offered (w : BitVec 16) (l : List Byte) : State := onThread { State.reset with program := .request w l .done }

theorem witness_StepRunsTheOfferedOperation :
    (offered 0x0790#16 []).stepper = some .thread ∧ (offered 0x0790#16 []).pos = .idle ∧
    decode (.op 0x0790#16 []) = .ok (.initializeOp 2#2 0x3C#7) ∧
    (offered 0x0006#16 []).stepper = some .thread ∧ decode (.op 0x0006#16 []) = .error .reservedOp :=
  ⟨rfl, rfl, rfl, rfl, rfl⟩

/-- SEQ at a point of SEND_COMMAND 0xAE, with the next step offered to the thread. -/
def atPoint (k : Point) (q : List Entry) : State :=
  onThread { ready with pos := .at (.sendCommand 0xAE#8) k, fifo := q }

theorem witness_StepRunsTheAccessOfThePoint :
    (atPoint (.push 0 1) []).stepper = some .thread ∧ (atPoint (.push 0 1) []).pos = .at (.sendCommand 0xAE#8) (.push 0 1) ∧
    accessAt ready.params (.sendCommand 0xAE#8) (.push 0 1) = some (.strIcDataCmd 0x2AE#32) := by decide
theorem witness_StepRunsTheRawAccess :
    (onThread { ready with pos := .raw [.pollIdle, .push 1#8] }).stepper = some .thread ∧
    decodeAccess ready.params.i2cBase .pollIdle = .ok .ldrIcStatus ∧
    (onThread { ready with pos := .raw [.ra 0x010#9 0] }).stepper = some .thread ∧
    decodeAccess ready.params.i2cBase (.ra 0x010#9 0) = .error .readback := ⟨rfl, rfl, rfl, rfl⟩
theorem witness_StepRunsTheFetchedTableWord :
    decodeTableWord 16 0x16C = some (.strIcEnable 0) ∧ (Instr.strIcEnable 0).isAccess = true ∧
    decodeTableWord 16 0x790 = some (.initializeOp 2#2 0x3C#7) ∧ (Instr.initializeOp 2#2 0x3C#7).isAccess = false := by decide
theorem witness_StepIsOneStepOfOneEnabledAgent : ready.running := ⟨rfl, rfl⟩
theorem witness_StoppedRunTakesNoStep :
    { ready with fault := some .fReinit }.fault = some .fReinit ∧ { ready with refused := some .qSpeed }.refused = some .qSpeed :=
  ⟨rfl, rfl⟩
theorem witness_FaultingStepHasNoOtherEffect :
    nextIs (step (offered 0x0572#16 [])) (fun t => t.fault == some .fNotInitialized) = true ∧
    nextIs (step (offered 0x0798#16 [])) (fun t => t.refused == some .qSpeed) = true := by decide
theorem witness_StrIcConFollowsItsRule :
    (0x865#32).extractLsb' 11 21 ≠ 0 ∧ (0x64#32).getLsbD 0 = false ∧ (0x61#32).extractLsb' 1 2 ∉ [1#2, 2#2] ∧
    (0x67#32).extractLsb' 1 2 ∉ [1#2, 2#2] ∧ (0x75#32).getLsbD 4 = true ∧ (0x25#32).getLsbD 6 = false ∧
    ((0x7E3#32).extractLsb' 11 21 = 0 ∧ (0x7E3#32).getLsbD 0 = true ∧ (0x7E3#32).extractLsb' 1 2 ∈ [1#2, 2#2] ∧
      (0x7E3#32).getLsbD 4 = false ∧ (0x7E3#32).getLsbD 6 = true) ∧
    ready.icEnable.getLsbD 0 = true ∧ State.reset.icEnable.getLsbD 0 = false := by decide
theorem witness_StrIcTarFollowsItsRule :
    (0x1000#32).extractLsb' 12 20 ≠ 0 ∧ (0x83C#32).getLsbD 11 = true ∧ 0x7F < ((0x80#32).extractLsb' 0 10).toNat ∧
    ((0x47F#32).extractLsb' 12 20 = 0 ∧ (0x47F#32).getLsbD 11 = false ∧ ((0x47F#32).extractLsb' 0 10).toNat ≤ 0x7F) ∧
    ready.icEnable.getLsbD 0 = true ∧ State.reset.icEnable.getLsbD 0 = false := by decide
theorem witness_StrIcDataCmdFollowsItsRule :
    (0x100#32).getLsbD 8 = true ∧ ((0x800#32).getLsbD 8 = false ∧ (0x800#32).extractLsb' 11 21 ≠ 0) ∧
    ((0x4AE#32).getLsbD 8 = false ∧ (0x4AE#32).extractLsb' 11 21 = 0 ∧ (0x4AE#32).getLsbD 10 = true ∧
      { ready with icCon := 0x45#32 }.icCon.getLsbD 5 = false) ∧
    ((0x6FF#32).getLsbD 8 = false ∧ (0x6FF#32).extractLsb' 11 21 = 0 ∧ ready.icCon.getLsbD 5 = true) ∧
    State.reset.icEnable.getLsbD 0 = false ∧ (ready.icEnable.getLsbD 0 = true ∧ ready.txAbort = false) ∧
    { ready with txAbort := true }.txAbort = true ∧ { ready with fifo := entries 16 }.fifo.length = ready.params.txFifoDepth ∧
    { ready with fifo := entries 15 }.fifo.length ≠ ready.params.txFifoDepth := by decide
theorem witness_StrIcEnableFollowsItsRule :
    (0x2#32).extractLsb' 1 31 ≠ 0 ∧ ((0x0#32).extractLsb' 1 31 = 0 ∧ (0x0#32).getLsbD 0 = false) ∧
    { ready with bus := .active }.bus = .active ∧ { ready with held := true }.held = true ∧
    { ready with fifo := entries 1 }.fifo ≠ [] ∧ ((0x1#32).extractLsb' 1 31 = 0 ∧ (0x1#32).getLsbD 0 = true) ∧
    (ready.bus = .idle ∧ ready.held = false ∧ ready.fifo = []) := by decide
theorem witness_AccessesLeaveTheRestUnchanged :
    ([Instr.ldrIcCon, .ldrIcTar, .ldrIcEnable, .ldrIcStatus].all fun i => nextIs (exec i ready) (fun _ => true)) = true ∧
    nextIs (exec (.strIcCon 0x63#32) State.reset) (fun _ => true) = true ∧
    nextIs (exec (.strIcTar 0x3C#32) State.reset) (fun _ => true) = true ∧
    nextIs (exec (.strIcEnable 0#32) ready) (fun _ => true) = true ∧
    nextIs (exec (.strIcDataCmd 0x2AE#32) ready) (fun _ => true) = true ∧ (Instr.strIcDataCmd 0x2AE#32).isAccess = true := by decide
theorem witness_InitializeIsTakenAfterItsChecks :
    0#2 ∉ [1#2, 2#2] ∧ 3#2 ∉ [1#2, 2#2] ∧ 1#2 ∈ [1#2, 2#2] ∧ ready.phase = .ready ∧ State.reset.phase = .uninit := by decide
theorem witness_InitializeConfiguresTheController :
    (State.reset.running ∧ State.reset.pos = .idle ∧ State.reset.phase = .uninit ∧ State.reset.fifo = [] ∧ State.reset.bus = .idle ∧
      State.reset.held = false) ∧ 2#2 ∈ [1#2, 2#2] ∧
    (offered (((2#2).setWidth 16 <<< 3) ||| ((0x3C#7).setWidth 16 <<< 5)) []).program = .request 0x0790#16 [] .done :=
  ⟨⟨⟨rfl, rfl⟩, rfl, rfl, rfl, rfl, rfl⟩, by decide, by decide⟩
theorem witness_WriteBufferIsTakenWhenReady : State.reset.phase = .uninit ∧ ready.phase = .ready := ⟨rfl, rfl⟩

/-- A frame. -/
def frame : List Byte := List.replicate 1024 0xA5#8

theorem frame_length : frame.length = 1024 := List.length_replicate

theorem witness_ProtocolOperationsAreTakenWhenReady :
    ready.phase = .ready ∧ [0xAE#8] ≠ [] ∧ ready.params.initTable ≠ [] ∧
    { ready with params := { defaultParams with initTable := [] } }.params.initTable = [] ∧ frame.length = 1024 :=
  ⟨rfl, by decide, by decide, rfl, frame_length⟩
theorem witness_ProtocolOperationsStopByRule :
    State.reset.phase = .uninit ∧ [0xAE#8] ≠ [] ∧ State.reset.params.initTable ≠ [] ∧ (frame.drop 1).length ≠ 1024 ∧
    (0x00#8 :: frame).length ≠ 1024 ∧ frame.length = 1024 :=
  ⟨rfl, by decide, by decide, by rw [List.length_drop, frame_length]; decide, by rw [List.length_cons, frame_length]; decide,
    frame_length⟩
theorem witness_TakingAnOperationLeavesTheRestUnchanged :
    (Instr.initSequence).isAccess = false ∧
    nextIs (exec .initSequence { ready with params := { defaultParams with initTable := [] } }) (fun t => t.initDone != ready.initDone)
      = true := by decide
theorem witness_PushCarriesStopOnTheLastByteOnly :
    (transfers defaultParams (.sendCommandList [0x81#8, 0x7F#8]))[1]? = some [0x80#8, 0x7F#8] ∧
    [0x80#8, 0x7F#8][0]? = some 0x80#8 ∧ [0x80#8, 0x7F#8][1]? = some 0x7F#8 := by decide
theorem witness_ProtocolTransfersAreFramed : frame.length = 1024 := frame_length
theorem witness_FramebufferTransfersCarryTheFrame : frame.length = 1024 := frame_length
theorem witness_PollsRepeatUntilTheirConditionHolds :
    ((atPoint (.pollTfnf 0 1) (entries 15)).stepper = some .thread ∧
      accessAt ready.params (.sendCommand 0xAE#8) (.pollTfnf 0 1) ≠ none) ∧
    (atPoint (.pollTfnf 0 1) (entries 16)).stepper = some .thread ∧
    ((atPoint (.pollIdle 0) (entries 1)).stepper = some .thread ∧
      accessAt ready.params (.sendCommand 0xAE#8) (.pollIdle 0) ≠ none ∧ (atPoint (.pollIdle 0) (entries 1)).activity = true) ∧
    ((atPoint (.pollIdle 0) []).stepper = some .thread ∧ (atPoint (.pollIdle 0) []).activity = false) ∧
    (transfers ready.params (.sendCommandList [0x81#8, 0x7F#8]))[0 + 1]? = some (0x80#8 :: [0x7F#8]) ∧
    (transfers ready.params (.sendCommand 0xAE#8))[0 + 1]? = none := by
  decide

/-- A quiet machine about to take a request, with some choices listed. -/
def quietStart (w : BitVec 16) (l : List Byte) (script : List Choice) : State :=
  { ready with program := .request w l .done, script := script }

theorem quietStart_quiet (w : BitVec 16) (l : List Byte) (script : List Choice) : (quietStart w l script).Quiet :=
  ⟨⟨rfl, rfl⟩, rfl, (by decide : ready.enabled = true), rfl, rfl, rfl, rfl⟩

/-- The state after some steps, as far as they go. -/
def after (n : Nat) (s : State) : State :=
  match runSteps n s with
  | .next t => t
  | .fault _ => s
  | .refused _ => s

/-- Six steps of an eager run of WRITE_BUFFER [0x55]: the request, a poll, the push, C_START, C_BYTE, the poll for idle. -/
theorem witness_WriteBufferPutsOneTransactionOnTheBus :
    (quietStart 0x0001#16 [0x55#8] (eagerScript 6)).Quiet ∧ decode (.op 0x0001#16 [0x55#8]) = .ok (.writeBuffer [0x55#8]) ∧
    (∀ spd a7, Instr.writeBuffer [0x55#8] ≠ .initializeOp spd a7) ∧
    (∀ f, Instr.writeBuffer [0x55#8] = .sendFramebuffer f → f.length = 1024) ∧ noNackFor 6 (eagerScript 6) ∧
    runSteps 6 (quietStart 0x0001#16 [0x55#8] (eagerScript 6)) = .next (after 6 (quietStart 0x0001#16 [0x55#8] (eagerScript 6))) ∧
    (after 6 (quietStart 0x0001#16 [0x55#8] (eagerScript 6))).pos = .idle ∧
    (∀ m u, 0 < m → m < 6 → runSteps m (quietStart 0x0001#16 [0x55#8] (eagerScript 6)) = .next u → u.pos ≠ .idle) := by
  refine ⟨quietStart_quiet _ _ _, rfl, fun _ _ h => Instr.noConfusion h, fun _ h => Instr.noConfusion h,
    ⟨by decide, by decide⟩, rfl, by decide, ?_⟩
  intro m u h0 h6 h
  have hm : m = 1 ∨ m = 2 ∨ m = 3 ∨ m = 4 ∨ m = 5 := by omega
  have hu : u = after m (quietStart 0x0001#16 [0x55#8] (eagerScript 6)) := by simp [after, h]
  subst hu
  clear h
  rcases hm with rfl | rfl | rfl | rfl | rfl <;> decide

/-- The end of that run. -/
def runEnd : State := after 6 (quietStart 0x0001#16 [0x55#8] (eagerScript 6))

/-- That run, and nothing after it. -/
def oneByteRun (n : Nat) : State :=
  if n < 6 then after n (quietStart 0x0001#16 [0x55#8] (eagerScript 6)) else { runEnd with tick := n - 6 }

theorem runEnd_idle (k : Nat) : { runEnd with tick := k }.threadEnabled = false ∧ { runEnd with tick := k }.ctrlEnabled = false :=
  ⟨(by decide : runEnd.threadEnabled = false), (by decide : runEnd.ctrlEnabled = false)⟩

theorem runEnd_stepper (k : Nat) : { runEnd with tick := k }.stepper = none := by
  unfold State.stepper
  rw [(runEnd_idle k).1, (runEnd_idle k).2]
  split <;> rfl

theorem oneByteRun_late (n : Nat) (h : 6 ≤ n) : oneByteRun n = { runEnd with tick := n - 6 } := by
  simp [oneByteRun, Nat.not_lt.mpr h]

theorem oneByteRun_isRun : IsRun oneByteRun := by
  intro n
  by_cases h : n < 6
  · have hn : n = 0 ∨ n = 1 ∨ n = 2 ∨ n = 3 ∨ n = 4 ∨ n = 5 := by omega
    rcases hn with rfl | rfl | rfl | rfl | rfl | rfl <;> rfl
  · rw [oneByteRun_late n (by omega), oneByteRun_late (n + 1) (by omega)]
    have hf : runEnd.fault = none := by decide
    have hr : runEnd.refused = none := by decide
    have hd : ({ runEnd with tick := n - 6 }).draw = { runEnd with tick := n + 1 - 6 } := by
      have : n + 1 - 6 = n - 6 + 1 := by omega
      rw [this]
      rfl
    simp only [step, runEnd_stepper, hd]
    simp only [hf, hr]

theorem witness_WriteBufferCompletesInEveryFairRun :
    IsRun oneByteRun ∧ FairRun oneByteRun ∧ SlaveAcks oneByteRun ∧ (oneByteRun 0).Quiet ∧ 1 ≤ (oneByteRun 0).params.txFifoDepth ∧
      (oneByteRun 0).pos = .idle ∧ (oneByteRun 0).program = .request 0x0001#16 [0x55#8] .done ∧
      decode (.op 0x0001#16 [0x55#8]) = .ok (.writeBuffer [0x55#8]) := by
  refine ⟨oneByteRun_isRun, ⟨?_, ?_⟩, ⟨?_, ?_⟩, quietStart_quiet _ _ _, by decide, rfl, rfl, rfl⟩
  · intro n h
    have h6 := h (n + 6) (by omega)
    rw [oneByteRun_late (n + 6) (by omega), (runEnd_idle _).1] at h6
    exact absurd h6 (by decide)
  · intro n h
    have h6 := h (n + 6) (by omega)
    rw [oneByteRun_late (n + 6) (by omega), (runEnd_idle _).2] at h6
    exact absurd h6 (by decide)
  · intro n h
    by_cases hn : n < 6
    · have hn' : n = 0 ∨ n = 1 ∨ n = 2 ∨ n = 3 ∨ n = 4 ∨ n = 5 := by omega
      clear h
      rcases hn' with rfl | rfl | rfl | rfl | rfl | rfl <;> decide
    · rw [oneByteRun_late n (by omega), runEnd_stepper] at h
      exact absurd h (by decide)
  · intro n h
    obtain ⟨m, hm, hc⟩ := h (n + 6) (by omega)
    rw [oneByteRun_late m (by omega), runEnd_stepper] at hc
    exact absurd hc (by decide)

theorem witness_EagerRunCompletesTheOperation :
    (quietStart 0x0572#16 [] (eagerScript 9)).Quiet ∧ decode (.op 0x0572#16 []) = .ok (.sendCommand 0xAE#8) ∧
    (∀ spd a7, Instr.sendCommand 0xAE#8 ≠ .initializeOp spd a7) ∧ (∀ f, Instr.sendCommand 0xAE#8 = .sendFramebuffer f → f.length = 1024) ∧
    eagerScript 9 = eagerScript (1 + ((transfers ready.params (.sendCommand 0xAE#8)).map eagerSteps).sum) ++ [] :=
  ⟨quietStart_quiet _ _ _, rfl, fun _ _ h => Instr.noConfusion h, fun _ h => Instr.noConfusion h, by decide⟩
/-- The hypothesis on SEND_FRAMEBUFFER is met by a frame. -/
theorem witness_EagerRunOfAFrame :
    decode (.op 0x0004#16 frame) = .ok (.sendFramebuffer frame) ∧ ∀ f, Instr.sendFramebuffer frame = .sendFramebuffer f → f.length = 1024 := by
  refine ⟨rfl, fun f h => ?_⟩
  cases h
  exact frame_length

theorem reset_inv : State.reset.Inv :=
  ⟨by decide, fun _ => ⟨rfl, rfl, rfl⟩, fun _ => ⟨rfl, rfl, rfl⟩, fun h => by simp [State.reset] at h, by decide, by decide, by decide,
    fun e he => by simp [State.reset] at he, rfl⟩
/-- Ready states in which nothing is under way meet the controller invariant. -/
theorem quiet_inv (pos : Pos) (program : Program) (script : List Choice) (abort : Bool) :
    { ready with pos := pos, program := program, script := script, txAbort := abort }.Inv :=
  ⟨by show 0 ≤ 16; decide, fun _ => ⟨rfl, rfl, rfl⟩, fun _ => ⟨rfl, rfl, rfl⟩, fun h => by simp [ready, State.reset] at h,
    by show conAdmitted ready.icCon = true ∧ ready.icCon.getLsbD 10 = false; decide,
    by show tarAdmitted ready.icTar = true; decide, by show enableAdmitted ready.icEnable = true; decide, fun e he => by simp [ready, State.reset] at he, rfl⟩

theorem witness_ReturnImpliesIdle :
    (atPoint (.pollIdle 0) []).Inv ∧ (atPoint (.pollIdle 0) []).phase = .ready ∧ (atPoint (.pollIdle 0) []).enabled = true ∧
    (atPoint (.pollIdle 0) []).pos = .at (.sendCommand 0xAE#8) (.pollIdle 0) ∧
    nextIs (step (atPoint (.pollIdle 0) [])) (fun t => t.pos != (atPoint (.pollIdle 0) []).pos) = true :=
  ⟨quiet_inv _ _ _ _, rfl, rfl, rfl, by decide⟩
theorem witness_HeldControllerBlocksForEver :
    { atPoint (.pollIdle 0) (entries 1) with held := true }.held = true ∧
    nextIs (step { atPoint (.pollIdle 0) (entries 1) with held := true }) (fun t => t.held) = true := by decide
theorem witness_StalledSlaveBlocksForEver :
    (quietStart 0x0001#16 [0x55#8] (List.replicate 4 { agent := .ctrl, answer := .stall, nack := .hold })).Quiet ∧
    stallFor 4 (List.replicate 4 { agent := .ctrl, answer := .stall, nack := .hold }) ∧
    nextIs (runSteps 4 (quietStart 0x0001#16 [0x55#8] (List.replicate 4 { agent := .ctrl, answer := .stall, nack := .hold })))
      (fun t => t.pos != .idle) = true :=
  ⟨quietStart_quiet _ _ _, ⟨by decide, by decide⟩, by decide⟩
theorem witness_DiscardedAndEmptyTransfersEmitNothing :
    { ready with program := .request 0x0001#16 [0x55#8] .done, txAbort := true }.running ∧
    { ready with pos := .idle, program := .request 0x0001#16 [0x55#8] .done, script := [], txAbort := true }.Inv ∧
    { ready with txAbort := true }.enabled = true ∧ 1 ≤ ready.params.txFifoDepth ∧
    { ready with program := .request 0x0001#16 [] .done }.activity = false :=
  ⟨⟨rfl, rfl⟩, quiet_inv _ _ _ _, rfl, by decide, rfl⟩
theorem witness_CtrlStartOpensATransaction :
    ∀ c ∈ [(Answer.stall, NackChoice.hold), (.ack, .hold), (.nack, .abort), (.nack, .hold)],
      (onCtrl c.1 c.2 { ready with fifo := entries 1 }).stepper = some .ctrl ∧
      (onCtrl c.1 c.2 { ready with fifo := entries 1 }).choice.answer = c.1 ∧
      (onCtrl c.1 c.2 { ready with fifo := entries 1 }).choice.nack = c.2 ∧
      (onCtrl c.1 c.2 { ready with fifo := entries 1 }).bus = .idle := by decide
theorem witness_CtrlByteSendsTheHead :
    ∀ c ∈ [(Answer.stall, NackChoice.hold), (.ack, .hold), (.nack, .abort), (.nack, .hold)], ∀ restart ∈ [false, true],
      (onCtrl c.1 c.2 { ready with bus := .active, fifo := [entry 0xAE#8 true restart] }).stepper = some .ctrl ∧
      (onCtrl c.1 c.2 { ready with bus := .active, fifo := [entry 0xAE#8 true restart] }).choice.answer = c.1 ∧
      (onCtrl c.1 c.2 { ready with bus := .active, fifo := [entry 0xAE#8 true restart] }).choice.nack = c.2 := by decide
theorem witness_StallLeavesTheStateUnchanged :
    (onCtrl .stall .hold { ready with fifo := entries 1 }).stepper = some .ctrl ∧
    (onCtrl .stall .hold { ready with fifo := entries 1 }).choice.answer = .stall := by decide
/-- A CTRL step and a push. -/
theorem witness_BusDataOrderIsPushOrder :
    nextIs (step (onCtrl .ack .hold { ready with bus := .active, fifo := entries 2 })) (fun t => t.trace != []) = true ∧
    (onCtrl .ack .hold { ready with bus := .active, fifo := entries 2 }).choice.answer ≠ .nack ∧
    nextIs (step (atPoint (.push 0 0) [])) (fun t => t.fifo != []) = true ∧ (atPoint (.push 0 0) []).choice.answer ≠ .nack := by decide
theorem witness_EachAgentKeepsToItsSideOfTheFifo :
    nextIs (step (onCtrl .ack .hold { ready with bus := .active, fifo := entries 2 })) (fun t => t.trace != []) = true ∧
    (onCtrl .ack .hold { ready with bus := .active, fifo := entries 2 }).stepper = some .ctrl ∧
    nextIs (step (atPoint (.push 0 0) [])) (fun t => t.fifo != []) = true ∧ (atPoint (.push 0 0) []).stepper ≠ some .ctrl := by decide
theorem witness_AbortAndHoldAreNeverCleared :
    nextIs (step (onThread { ready with txAbort := true, held := true })) (fun _ => true) = true ∧
    nextIs (step (onCtrl .nack .abort { ready with fifo := entries 1 })) (fun t => t.txAbort != ready.txAbort) = true ∧
    nextIs (step (onCtrl .nack .hold { ready with fifo := entries 1 })) (fun t => t.held != ready.held) = true := by decide
theorem witness_ControllerInvariantIsKept :
    (onThread { ready with pos := .at (.sendCommand 0xAE#8) (.push 0 0) }).Inv ∧
    nextIs (step (onThread { ready with pos := .at (.sendCommand 0xAE#8) (.push 0 0) })) (fun t => t.fifo != []) = true :=
  ⟨quiet_inv _ _ _ _, by decide⟩
theorem ready_operationInv : (atPoint (.push 0 0) []).OperationInv := by
  refine ⟨rfl, fun _ h => Pos.noConfusion h, fun h => Phase.noConfusion h, fun _ => ⟨rfl, ?_⟩, ?_⟩
  · intro op k n h hk
    subst hk
    injection h with _ h2
    exact Point.noConfusion h2
  · intro op j i _
    show 0 < 16
    decide
theorem witness_OperationInvariantIsKept :
    (atPoint (.push 0 0) []).OperationInv ∧ nextIs (step (atPoint (.push 0 0) [])) (fun t => t.fifo != []) = true :=
  ⟨ready_operationInv, by decide⟩
theorem witness_EngineRaisesOnlyOrderFaults :
    (atPoint (.push 0 0) []).OperationInv ∧ nextIs (step (atPoint (.push 0 0) [])) (fun t => t.fault == none) = true :=
  ⟨ready_operationInv, by decide⟩
theorem witness_PositionStaysAtAPoint :
    (atPoint (.pollIdle 0) []).posOk ∧ nextIs (step (atPoint (.pollIdle 0) [])) (fun _ => true) = true := by
  refine ⟨?_, by decide⟩
  show accessAt ready.params (.sendCommand 0xAE#8) (.pollIdle 0) ≠ none
  decide
theorem witness_PhaseMovesOnlyWhenInitializeCompletes :
    nextIs (step (onThread { State.reset with pos := .at (.initializeOp 2#2 0x3C#7) (.cfg 3) })) (fun t => t.phase != .uninit) = true := by
  decide
theorem witness_InitDoneIsSetOnlyByInitSequence :
    nextIs (step (onThread { ready with pos := .at .initSequence (.pollIdle 16) })) (fun t => t.initDone != ready.initDone) = true ∧
    nextIs (step (onThread { ready with params := { defaultParams with initTable := [] }, program := .request 0x0005#16 [] .done }))
      (fun t => t.initDone != ready.initDone) = true := by decide
theorem witness_ConfigurationChangesOnlyWhileDisabled :
    nextIs (step (onThread { State.reset with pos := .raw [.ra 0x100#9 0x63#32] })) (fun t => t.icCon != State.reset.icCon) = true ∧
    nextIs (step (onThread { State.reset with pos := .raw [.ra 0x104#9 0x3C#32] })) (fun t => t.icTar != State.reset.icTar) = true ∧
    (ready.enabled = true ∧
      nextIs (step (onThread { ready with pos := .raw [.ra 0x16C#9 0#32] })) (fun t => !t.enabled) = true) := by decide
theorem witness_RawProgramsKeepThePhase :
    nextIs (step (onThread { ready with pos := .raw [.push 0x80#8] })) (fun t => t.fifo != []) = true := by decide
theorem witness_CallerLoopsUnrollByTheirRule :
    (onThread { ready with program := .repeatN 0 .done .done }).stepper = some .thread ∧
    (onThread { ready with program := .repeatN 1 .done .done }).stepper = some .thread ∧
    (onThread { ready with program := .forever .done .done }).stepper = some .thread ∧
    (onThread { ready with program := .raw [] .done }).stepper = some .thread ∧
    (onThread { ready with program := .raw [.pollIdle] .done }).stepper = some .thread := by decide
theorem witness_PanelShowsTheFramebuffer : defaultParams.initTable = initTableRef ∧ frame.length = 1024 := ⟨rfl, frame_length⟩
theorem reset_panelOk : Panel.reset.Ok :=
  ⟨by decide, by decide, by decide, by decide, by decide, by decide, fun _ => by decide, fun _ => by decide, rfl,
    fun _ h => by simp [Panel.reset] at h⟩
theorem witness_PanelRangesAreKept : Observer.reset.Ok ∧ Observer.unknown.Ok :=
  ⟨fun _ h => by cases h; exact reset_panelOk, fun _ h => Observer.noConfusion h⟩
theorem witness_ObserverReadsOnlyItsSlaveAndStaysUnknown :
    Panel.reset.parse = .outside ∧ .stop ∉ [BusEvent.addr 0x3D#7 false .ack, .data 0x55#8 .nack] ∧
    addressedElsewhere [.addr 0x3D#7 false .ack, .data 0x55#8 .nack] ∧
    addressedElsewhere [.addr 0x3C#7 false .nack] ∧ addressedElsewhere [.addr 0x3C#7 true .ack] ∧
    Observer.unknown.isKnown = false :=
  ⟨rfl, by decide, fun h => absurd h.1 (by decide), fun h => by simp at h, fun h => by simp at h, rfl⟩
theorem witness_FramebufferBeforeBringUpLeavesThePanelUnknown : frame.length = 1024 := frame_length

end Sys2Proof.Tests
end

section
/-! PROOF. Accesses by full address (R30, R58, R62) and the bits of a status read (R29). -/

namespace Sys2Proof

/-- Bits 7:0 of a selector made of a direction and an offset are the offset (R70). -/
@[simp] theorem selOffset_append (write : Bool) (off : BitVec 8) : selOffset (BitVec.ofBool write ++ off) = off :=
  BitVec.extractLsb'_append_eq_right

/-- Only the five register offsets of R24 decode to an access or to the readback refusal. -/
theorem decodeRa_offset_outside {sel : BitVec 9} (w : Word)
    (h : selOffset sel ∉ [0x00#8, 0x04#8, 0x10#8, 0x6C#8, 0x70#8]) : decodeRa sel w = .error .unmodelled := by
  have hne : ∀ c : BitVec 9, selOffset c ∈ [0x00#8, 0x04#8, 0x10#8, 0x6C#8, 0x70#8] → sel ≠ c := by
    rintro c hc rfl
    exact h hc
  simp [decodeRa, hne 0x000#9 (by decide), hne 0x100#9 (by decide), hne 0x004#9 (by decide), hne 0x104#9 (by decide),
    hne 0x110#9 (by decide), hne 0x06C#9 (by decide), hne 0x16C#9 (by decide), hne 0x070#9 (by decide),
    hne 0x010#9 (by decide)]

/-- An address in the window has the selector of its offset, any other access has none. -/
theorem selOfAddress_eq_some {base addr : Word} {bytes : Nat} {write : Bool} {sel : BitVec 9}
    (h : selOfAddress base addr bytes write = some sel) :
    bytes = 4 ∧ (selOffset sel).toNat = (addr - base).toNat := by
  unfold selOfAddress at h
  split_ifs at h with hw
  obtain ⟨hbytes, hwindow⟩ := hw
  cases h
  exact ⟨hbytes, by simpa using Nat.mod_eq_of_lt hwindow⟩

/-- Settles O7: an access that has a selector is 4 bytes wide, and its selector's offset is the address's. -/
theorem accessesOutsideTheMapAreRefused : Obligations.AccessesOutsideTheMapAreRefused := by
  intro base addr wdata bytes write h
  unfold decodeAddress
  split
  · next sel hsel =>
    obtain ⟨hbytes, hoff⟩ := selOfAddress_eq_some hsel
    refine decodeRa_offset_outside wdata fun hmem => ?_
    have hnat : (selOffset sel).toNat ∈ [0x00, 0x04, 0x10, 0x6C, 0x70] := List.mem_map_of_mem (f := BitVec.toNat) hmem
    exact h.elim (fun hne => hne hbytes) fun hne => hne (hoff ▸ hnat)
  · rfl

end Sys2Proof

namespace Sys2Proof.Machine

/-- Bit 2 of the status word (R29). -/
theorem icStatus_getLsbD_two (s : State) : s.icStatus.getLsbD 2 = s.tfe := by
  simp only [State.icStatus, State.slvActivity, State.rff, State.rfne, State.mstActivity]
  generalize s.activity = a, s.tfnf = b, s.tfe = c
  revert a b c; decide

/-- Bit 5 of the status word is MST_ACTIVITY, equal to bit 0 (R29). -/
theorem icStatus_getLsbD_five (s : State) : s.icStatus.getLsbD 5 = s.activity := by
  simp only [State.icStatus, State.slvActivity, State.rff, State.rfne, State.mstActivity]
  generalize s.activity = a, s.tfnf = b, s.tfe = c
  revert a b c; decide

/-- Every other bit of the status word is 0 (R29): three bits of the field, and all bits above it. -/
theorem icStatus_getLsbD_other (s : State) {n : Nat} (h : n ∉ [0, 1, 2, 5]) : s.icStatus.getLsbD n = false := by
  simp only [State.icStatus, State.slvActivity, State.rff, State.rfne, State.mstActivity]
  generalize s.activity = a, s.tfnf = b, s.tfe = c
  by_cases hn : n < 7
  · obtain rfl | rfl | rfl : n = 3 ∨ n = 4 ∨ n = 6 := by simp at h; omega
    all_goals revert a b c; decide
  · rw [BitVec.getLsbD_setWidth, BitVec.getLsbD_of_ge _ _ (by omega), Bool.and_false]

/-- When ACTIVITY is set (R29, decision D6). -/
theorem activity_iff (s : State) : s.activity = true ↔
    s.bus = .active ∨ s.held = true ∨ (s.enabled = true ∧ s.txAbort = false ∧ s.fifo ≠ []) := by
  simp [State.activity, or_assoc, and_assoc, List.length_pos_iff]

/-- Settles O16: the read returns the status word, whose bits are known one by one. -/
theorem statusReadReturnsTheStatusBits : Obligations.StatusReadReturnsTheStatusBits := by
  intro s w
  refine ⟨rfl, s.icStatus, exec_ldrIcStatus s, ?_, ?_, ?_, ?_, fun n hn => icStatus_getLsbD_other s hn⟩
  · rw [show s.icStatus.getLsbD 0 = s.activity from statusActivity_icStatus s]
    exact activity_iff s
  · rw [show s.icStatus.getLsbD 1 = s.tfnf from statusTfnf_icStatus s]
    simp [State.tfnf]
  · rw [icStatus_getLsbD_two]
    simp [State.tfe]
  · exact (icStatus_getLsbD_five s).trans (statusActivity_icStatus s).symm

end Sys2Proof.Machine
end

section
/-! PROOF. The points of an operation (R22), and where SEQ stands once it has taken an operation (R23). -/

namespace Sys2Proof.Machine

theorem transfers_initializeOp (p : Params) (spd : BitVec 2) (a7 : BitVec 7) : transfers p (.initializeOp spd a7) = [] := rfl

/-- There is no transfer to start exactly past the last one. -/
theorem transferStart_eq_none_iff {ts : List (List Byte)} {j : Nat} : transferStart ts j = none ↔ ts.length ≤ j := by
  rw [← List.getElem?_eq_none_iff]
  unfold transferStart
  split <;> simp_all

/-! The points of an operation, by the kind of point (R22). -/

theorem accessAt_cfg_ne_none {p : Params} {op : Instr} {n : Nat} :
    accessAt p op (.cfg n) ≠ none ↔ n < (cfgAccesses op).length := by
  simp [accessAt]

theorem accessAt_pollTfnf_ne_none {p : Params} {op : Instr} {j i : Nat} :
    accessAt p op (.pollTfnf j i) ≠ none ↔ i < ((transfers p op).getD j []).length := by
  simp only [accessAt, List.getD_eq_getElem?_getD]
  cases (transfers p op)[j]? <;> simp

theorem pushAccess_ne_none {bytes : List Byte} {i : Nat} : pushAccess bytes i ≠ none ↔ i < bytes.length := by
  unfold pushAccess
  split
  · next hb => simpa using hb
  · next b hb => simpa using (List.getElem?_eq_some_iff.1 hb).1

theorem accessAt_push_ne_none {p : Params} {op : Instr} {j i : Nat} :
    accessAt p op (.push j i) ≠ none ↔ i < ((transfers p op).getD j []).length := by
  simp only [accessAt, List.getD_eq_getElem?_getD]
  cases (transfers p op)[j]? with
  | none => simp
  | some bytes => exact pushAccess_ne_none

theorem accessAt_pollIdle_ne_none {p : Params} {op : Instr} {j : Nat} :
    accessAt p op (.pollIdle j) ≠ none ↔ j < (transfers p op).length := by
  simp [accessAt]

/-- The access at a poll for idle reads IC_STATUS (R141). -/
theorem accessAt_pollIdle_eq {p : Params} {op i : Instr} {j : Nat} (h : accessAt p op (.pollIdle j) = some i) :
    i = .ldrIcStatus := by
  simp only [accessAt] at h
  split_ifs at h
  exact (Option.some.inj h).symm

/-- A transfer of an operation starts at a point of it. -/
theorem accessAt_transferStart {p : Params} {op : Instr} {j : Nat} {k : Point}
    (h : transferStart (transfers p op) j = some k) : accessAt p op k ≠ none := by
  obtain ⟨rfl, hts⟩ | ⟨rfl, b, bs, hts⟩ := transferStart_cases h
  · exact accessAt_pollIdle_ne_none.2 (List.getElem?_eq_some_iff.1 hts).1
  · exact accessAt_pollTfnf_ne_none.2 (by simp [hts])

/-- SEQ enters a transfer at a point of the operation, or completes the operation when it has no such transfer. -/
theorem enterTransfer_point (op : Instr) (j : Nat) (s : State) :
    (∃ k, enterTransfer op j s = s.setPos (.at op k) ∧ accessAt s.params op k ≠ none) ∨
    (enterTransfer op j s = complete op s ∧ (transfers s.params op).length ≤ j) := by
  obtain ⟨hnone, heq⟩ | ⟨k, hk, heq⟩ := enterTransfer_cases op j s
  · exact .inr ⟨heq, transferStart_eq_none_iff.1 hnone⟩
  · exact .inl ⟨k, heq, accessAt_transferStart hk⟩

/-- A taken operation stands at one of its points, or, with no transfer to perform, completes at once (R23). -/
theorem exec_operation_cases {op : Instr} {s t : State} (ho : op.isAccess = false) (h : exec op s = .next t) :
    (∃ k, t = s.setPos (.at op k) ∧ accessAt s.params op k ≠ none) ∨
    (t = complete op s ∧ transfers s.params op = [] ∧ ∀ spd a7, op ≠ .initializeOp spd a7) := by
  by_cases hi : ∃ spd a7, op = .initializeOp spd a7
  · obtain ⟨spd, a7, rfl⟩ := hi
    obtain ⟨-, -, rfl⟩ := exec_initialize_next h
    exact .inl ⟨.cfg 0, rfl, accessAt_cfg_ne_none.2 (by simp [cfgAccesses, initializeAccesses])⟩
  · push Not at hi
    obtain ⟨-, rfl⟩ := exec_transfers_next ho hi h
    obtain ⟨k, heq, hk⟩ | ⟨heq, hlen⟩ := enterTransfer_point op 0 s
    · exact .inl ⟨k, heq, hk⟩
    · exact .inr ⟨heq, List.length_eq_zero_iff.1 (Nat.le_zero.1 hlen), hi⟩

end Sys2Proof.Machine
end

section
/-! PROOF. What the thread can do to the controller's side of the state (its registers, the FIFO, the bus, the marks of a
NACK and the trace): it stores one register or pushes one entry at most. -/

namespace Sys2Proof.Machine

/-- The fields that the controller invariant speaks of agree. -/
structure SameController (s t : State) : Prop where
  params : t.params = s.params
  icCon : t.icCon = s.icCon
  icTar : t.icTar = s.icTar
  icEnable : t.icEnable = s.icEnable
  fifo : t.fifo = s.fifo
  bus : t.bus = s.bus
  txAbort : t.txAbort = s.txAbort
  held : t.held = s.held
  trace : t.trace = s.trace

theorem SameController.refl (s : State) : SameController s s := by constructor <;> rfl

theorem SameController.trans {s t u : State} (h : SameController s t) (k : SameController t u) : SameController s u where
  params := k.params.trans h.params
  icCon := k.icCon.trans h.icCon
  icTar := k.icTar.trans h.icTar
  icEnable := k.icEnable.trans h.icEnable
  fifo := k.fifo.trans h.fifo
  bus := k.bus.trans h.bus
  txAbort := k.txAbort.trans h.txAbort
  held := k.held.trans h.held
  trace := k.trace.trans h.trace

theorem sameController_draw (s : State) : SameController s s.draw := by constructor <;> simp

theorem sameController_advance (op : Instr) (k : Point) (s : State) : SameController s (advance op k s) := by
  constructor <;> simp

/-- What the thread can do to the controller's side of the state in one step, with the checks it has passed: nothing, one
register store (R101, R103, R106) or one push (R104). -/
inductive ThreadMove (s t : State) : Prop
  | keep (same : SameController s t)
  | con (v : Word) (admitted : conAdmitted v = true) (disabled : s.enabled = false)
      (same : SameController (s.setIcCon (conClearBit10 v)) t)
  | tar (v : Word) (admitted : tarAdmitted v = true) (disabled : s.enabled = false)
      (same : SameController (s.setIcTar v) t)
  | push (e : Entry) (enabled : s.enabled = true) (noAbort : s.txAbort = false)
      (room : s.fifo.length ≠ s.params.txFifoDepth) (restart : e.restart = true → conRestartEn s.icCon = true)
      (same : SameController (s.pushEntry e) t)
  | enable (v : Word) (admitted : enableAdmitted v = true)
      (quiet : enableEnable v = true ∨ (s.bus = .idle ∧ s.held = false ∧ s.fifo = []))
      (same : SameController (s.setIcEnable v) t)

theorem ThreadMove.trans {s t u : State} (h : ThreadMove s t) (k : SameController t u) : ThreadMove s u := by
  cases h with
  | keep same => exact .keep (same.trans k)
  | con v ha hd same => exact .con v ha hd (same.trans k)
  | tar v ha hd same => exact .tar v ha hd (same.trans k)
  | push e he hab hroom hr same => exact .push e he hab hroom hr (same.trans k)
  | enable v ha hq same => exact .enable v ha hq (same.trans k)

/-- No move of the thread touches the parameters, the bus, the marks of a NACK or the trace, and the FIFO only grows at its
end. -/
theorem ThreadMove.frame {s t : State} (h : ThreadMove s t) :
    t.params = s.params ∧ t.bus = s.bus ∧ t.txAbort = s.txAbort ∧ t.held = s.held ∧ t.trace = s.trace ∧
      s.fifo <+: t.fifo := by
  cases h with
  | keep same | con _ _ _ same | tar _ _ _ same | push _ _ _ _ _ same | enable _ _ _ same =>
    exact ⟨same.params, same.bus, same.txAbort, same.held, same.trace, by simp [same.fifo]⟩

/-- A data word that is not refused asks for RESTART only while restarts are enabled (R104). -/
theorem restartEn_of_dataCmdRefusal_none {v : Word} {s : State} (h : dataCmdRefusal v s = none)
    (hr : dataCmdRestart v = true) : conRestartEn s.icCon = true := by
  unfold dataCmdRefusal at h
  split_ifs at h with _ _ hc
  simpa [hr] using hc

/-- A register access makes one move of the thread. -/
theorem exec_access_move {i : Instr} {s t : State} (hi : i.isAccess = true) (h : exec i s = .next t) :
    ThreadMove s t := by
  cases i with
  | ldrIcCon | ldrIcTar | ldrIcEnable | ldrIcStatus =>
    cases h
    exact .keep (by constructor <;> rfl)
  | strIcCon v =>
    obtain ⟨ha, hd, rfl⟩ := exec_strIcCon_next h
    exact .con v ha hd (.refl _)
  | strIcTar v =>
    obtain ⟨ha, hd, rfl⟩ := exec_strIcTar_next h
    exact .tar v ha hd (.refl _)
  | strIcDataCmd v =>
    obtain ⟨hr, he, ⟨-, rfl⟩ | ⟨hab, hroom, rfl⟩⟩ := exec_strIcDataCmd_next h
    · exact .keep (.refl _)
    · exact .push (entryOfWord v) he hab hroom (restartEn_of_dataCmdRefusal_none hr) (.refl _)
  | strIcEnable v =>
    obtain ⟨ha, hq, rfl⟩ := exec_strIcEnable_next h
    exact .enable v ha hq (.refl _)
  | _ => cases hi

/-- Taking an operation leaves the controller alone. -/
theorem exec_operation_sameController {op : Instr} {s t : State} (ho : op.isAccess = false) (h : exec op s = .next t) :
    SameController s t := by
  obtain ⟨k, rfl, -⟩ | ⟨rfl, -, -⟩ := exec_operation_cases ho h
  · constructor <;> rfl
  · constructor <;> simp

theorem callerStep_sameController {s t : State} (h : callerStep s = .next t) : SameController s t := by
  obtain ⟨-, rfl⟩ | ⟨w, a, rest, i, -, hdec, hexec⟩ | ⟨body, rest, -, rfl⟩ | ⟨n, body, rest, -, rfl⟩ |
    ⟨body, rest, -, rfl⟩ | ⟨as, rest, -, rfl⟩ := callerStep_next h
  · exact .refl _
  · have same : SameController s (s.setProgram rest) := by constructor <;> rfl
    exact same.trans (exec_operation_sameController (decodeOp_isOperation hdec) hexec)
  all_goals constructor <;> rfl

/-- The four positions of the thread (R22, R88). -/
theorem threadStep_next {s t : State} (h : threadStep s = .next t) :
    (s.pos = .idle ∧ callerStep s = .next t) ∨
    (∃ op k, s.pos = .at op k ∧ seqStep op k s = .next t) ∨
    (s.pos = .raw [] ∧ t = s.setPos .idle) ∨
    (∃ a rest, s.pos = .raw (a :: rest) ∧ rawStep a rest s = .next t) := by
  unfold threadStep at h
  split at h
  · exact .inl ⟨by assumption, h⟩
  · exact .inr (.inl ⟨_, _, by assumption, h⟩)
  · cases h
    exact .inr (.inr (.inl ⟨by assumption, rfl⟩))
  · exact .inr (.inr (.inr ⟨_, _, by assumption, h⟩))

theorem threadStep_move {s t : State} (h : threadStep s = .next t) : ThreadMove s t := by
  obtain ⟨-, h⟩ | ⟨op, k, -, h⟩ | ⟨-, rfl⟩ | ⟨a, rest, -, h⟩ := threadStep_next h
  · exact .keep (callerStep_sameController h)
  · obtain ⟨-, rfl⟩ | ⟨i, u, hi, hexec, rfl⟩ := seqStep_next h
    · exact .keep (.refl _)
    · exact (exec_access_move (accessAt_isAccess hi) hexec).trans (sameController_advance op k u)
  · exact .keep (by constructor <;> rfl)
  · obtain ⟨i, u, hi, hexec, hu⟩ := rawStep_next h
    have hmove := exec_access_move (decodeAccess_isAccess hi) hexec
    obtain ⟨-, rfl⟩ | ⟨-, rfl⟩ := hu
    · exact hmove.trans (by constructor <;> rfl)
    · exact hmove

/-- A step on the controller's side: CTRL's own step, or one move of the thread. -/
theorem step_controller {s t : State} (h : step s = .next t) :
    (s.stepper = some .ctrl ∧ s.ctrlEnabled = true ∧ t = ctrlStep s.choice.answer s.choice.nack s.draw) ∨
    (s.stepper ≠ some .ctrl ∧ ThreadMove s.draw t) := by
  obtain ⟨-, ⟨hs, he, rfl⟩ | ⟨hs, -, h⟩ | ⟨hs, -, f, -, rfl⟩ | ⟨hs, -, q, -, rfl⟩ | ⟨hs, rfl⟩⟩ := step_cases h
  · exact .inl ⟨hs, he, rfl⟩
  · exact .inr ⟨by simp [hs], threadStep_move h⟩
  · exact .inr ⟨by simp [hs], .keep (by constructor <;> rfl)⟩
  · exact .inr ⟨by simp [hs], .keep (by constructor <;> rfl)⟩
  · exact .inr ⟨by simp [hs], .keep (.refl _)⟩

end Sys2Proof.Machine
end

section
/-! PROOF. What CTRL can do in one step (R110 to R115): events that lead from one bus state to the next, and a FIFO that
does not grow. -/

namespace Sys2Proof.Machine

/-- What a bus state with a target address says of the form of the trace (R33, R118). -/
def busForm (b : Bus) (a : BitVec 7) : TraceForm :=
  match b with
  | .idle => .closed
  | .active => .opened a

/-- CTRL emits `evs`, leaves `q` in the FIFO and the bus at `b`. -/
def State.busMove (s : State) (evs : List BusEvent) (q : List Entry) (b : Bus) : State :=
  ((s.emit evs).setFifo q).setBus b

/-- What CTRL's events, FIFO and bus state have in common in every answer: the FIFO does not grow, no RESTART flag is
new in it, and the events lead from the old bus state to the new one. -/
structure BusMove (s : State) (evs : List BusEvent) (q : List Entry) (b : Bus) : Prop where
  length_le : q.length ≤ s.fifo.length
  restart : ∀ e ∈ q, e.restart = true → e ∈ s.fifo
  form : evs.foldl TraceForm.next (busForm s.bus s.tarAddr) = busForm b s.tarAddr

theorem mem_of_mem_clearHeadRestart {q : List Entry} {e : Entry} (h : e ∈ clearHeadRestart q) (hr : e.restart = true) :
    e ∈ q := by
  cases q with
  | nil => exact h
  | cons d rest =>
    rcases List.mem_cons.1 h with rfl | h
    · cases hr
    · exact List.mem_cons_of_mem d h

/-- A bus move that keeps every entry but may clear the head's RESTART flag. -/
theorem BusMove.ofClearedHead {s : State} {evs : List BusEvent} {b : Bus}
    (form : evs.foldl TraceForm.next (busForm s.bus s.tarAddr) = busForm b s.tarAddr) :
    BusMove s evs (clearHeadRestart s.fifo) b where
  length_le := by simp
  restart _ h hr := mem_of_mem_clearHeadRestart h hr
  form := form

/-- A bus move that keeps the FIFO. -/
theorem BusMove.ofKept {s : State} {evs : List BusEvent} {b : Bus}
    (form : evs.foldl TraceForm.next (busForm s.bus s.tarAddr) = busForm b s.tarAddr) : BusMove s evs s.fifo b where
  length_le := le_rfl
  restart _ h _ := h
  form := form

/-- A bus move that pops the head. -/
theorem BusMove.ofPopped {s : State} {evs : List BusEvent} {b : Bus}
    (form : evs.foldl TraceForm.next (busForm s.bus s.tarAddr) = busForm b s.tarAddr) : BusMove s evs s.fifo.tail b where
  length_le := by simp
  restart _ h _ := List.mem_of_mem_tail h
  form := form

/-- CTRL's step answer by answer (R110, R111, R115): nothing on STALL, a bus move on ACK, and on NACK a bus move with
the bus active after it, followed by the chosen outcome. -/
inductive CtrlMove (s : State) (o : NackChoice) : Answer → State → Prop
  | stall : CtrlMove s o .stall s
  | ack (evs : List BusEvent) (q : List Entry) (b : Bus) (move : BusMove s evs q b) :
      CtrlMove s o .ack (s.busMove evs q b)
  | nack (evs : List BusEvent) (q : List Entry) (b : Bus) (opened : b = .active) (move : BusMove s evs q b) :
      CtrlMove s o .nack (nackOutcome o (s.busMove evs q b))

/-- The write address byte of a START opens a transaction (R110). -/
theorem ctrlStart_move {s : State} (hb : s.bus = .idle) (r : Answer) (o : NackChoice) :
    CtrlMove s o r (ctrlStart r o s) := by
  have form : ∀ x, [.start, .addr s.tarAddr false x].foldl TraceForm.next (busForm s.bus s.tarAddr) =
      busForm .active s.tarAddr := fun x => by rw [hb]; rfl
  cases r with
  | stall => exact .stall
  | ack => exact .ack _ _ .active (.ofClearedHead (form .ack))
  | nack => exact .nack _ _ .active rfl (.ofKept (form .nack))

/-- A repeated START addresses the same slave again (R111, R118). -/
theorem ctrlRestart_move {s : State} (hb : s.bus = .active) (r : Answer) (o : NackChoice) :
    CtrlMove s o r (ctrlRestart r o s) := by
  have form : ∀ x, [.restart, .addr s.tarAddr false x].foldl TraceForm.next (busForm s.bus s.tarAddr) =
      busForm s.bus s.tarAddr := fun x => by simp [hb, busForm, TraceForm.next]
  cases r with
  | stall => exact .stall
  | ack => exact .ack _ _ s.bus (.ofClearedHead (form .ack))
  | nack => exact .nack _ _ s.bus hb (.ofKept (form .nack))

/-- A byte stays inside the transaction, and STOP closes it (R111). -/
theorem ctrlData_move {s : State} (hb : s.bus = .active) (e : Entry) (r : Answer) (o : NackChoice) :
    CtrlMove s o r (ctrlData e r o s) := by
  have form : ∀ x, [.data e.dat x].foldl TraceForm.next (busForm s.bus s.tarAddr) = busForm s.bus s.tarAddr :=
    fun x => by rw [hb]; rfl
  cases r with
  | stall => exact .stall
  | ack =>
    unfold ctrlData
    split_ifs
    · exact .ack _ _ .idle (.ofPopped (by rw [hb]; rfl))
    · exact .ack _ _ s.bus (.ofPopped (form .ack))
  | nack => exact .nack _ _ s.bus hb (.ofPopped (form .nack))

theorem ctrlStep_move {s : State} (h : s.ctrlEnabled = true) (r : Answer) (o : NackChoice) :
    CtrlMove s o r (ctrlStep r o s) := by
  obtain ⟨e, rest, -, ⟨hb, heq⟩ | ⟨hb, -, heq⟩ | ⟨hb, -, heq⟩⟩ := ctrlStep_cases h r o
  · exact heq ▸ ctrlStart_move hb r o
  · exact heq ▸ ctrlRestart_move hb r o
  · exact heq ▸ ctrlData_move hb e r o

/-! The frame of CTRL's answers. -/

theorem nackOutcome_trace_prefix (o : NackChoice) (s : State) : s.trace <+: (nackOutcome o s).trace := by
  cases o with
  | abort => exact List.prefix_append _ _
  | hold => exact List.prefix_rfl

theorem nackOutcome_fifo_length_le (o : NackChoice) (s : State) : (nackOutcome o s).fifo.length ≤ s.fifo.length := by
  cases o with
  | abort => exact Nat.zero_le _
  | hold => exact le_rfl

theorem nackOutcome_txAbort (o : NackChoice) (s : State) :
    (nackOutcome o s).txAbort = (s.txAbort || decide (o = .abort)) := by
  cases o <;> simp [nackOutcome]

theorem nackOutcome_held (o : NackChoice) (s : State) : (nackOutcome o s).held = (s.held || decide (o = .hold)) := by
  cases o <;> simp [nackOutcome]

theorem CtrlMove.trace_prefix {s t : State} {o : NackChoice} {r : Answer} (move : CtrlMove s o r t) :
    s.trace <+: t.trace := by
  cases move with
  | stall => exact List.prefix_rfl
  | ack evs q b _ => exact List.prefix_append _ _
  | nack evs q b _ _ => exact (List.prefix_append _ evs).trans (nackOutcome_trace_prefix o (s.busMove evs q b))

theorem CtrlMove.fifo_length_le {s t : State} {o : NackChoice} {r : Answer} (move : CtrlMove s o r t) :
    t.fifo.length ≤ s.fifo.length := by
  cases move with
  | stall => exact le_rfl
  | ack evs q b move => exact move.length_le
  | nack evs q b _ move => exact (nackOutcome_fifo_length_le o _).trans move.length_le

/-- CTRL sets `tx_abort` on a NACK answered with ABORT only (R114). -/
theorem CtrlMove.txAbort {s t : State} {o : NackChoice} {r : Answer} (move : CtrlMove s o r t) :
    t.txAbort = (s.txAbort || decide (r = .nack ∧ o = .abort)) := by
  cases move with
  | stall | ack => simp [State.busMove]
  | nack => simp [nackOutcome_txAbort, State.busMove]

/-- CTRL sets `held` on a NACK answered with HOLD only (R114). -/
theorem CtrlMove.held {s t : State} {o : NackChoice} {r : Answer} (move : CtrlMove s o r t) :
    t.held = (s.held || decide (r = .nack ∧ o = .hold)) := by
  cases move with
  | stall | ack => simp [State.busMove]
  | nack => simp [nackOutcome_held, State.busMove]

/-- CTRL's step as one of its moves, from the state whose free choice has been drawn. -/
theorem ctrlMove_of_ctrlEnabled {s : State} (he : s.ctrlEnabled = true) :
    CtrlMove s.draw s.choice.nack s.choice.answer (ctrlStep s.choice.answer s.choice.nack s.draw) :=
  ctrlStep_move ((State.draw_ctrlEnabled s).trans he) _ _

end Sys2Proof.Machine
end

section
/-! PROOF. The controller invariant is kept by every step; each agent keeps to its side of the FIFO; the marks of a NACK and
the configuration change only as their rules say. -/

namespace Sys2Proof.Machine

theorem traceForm_append (trace evs : List BusEvent) :
    traceForm (trace ++ evs) = evs.foldl TraceForm.next (traceForm trace) :=
  List.foldl_append

theorem State.Inv.traceForm_eq {s : State} (h : s.Inv) : traceForm s.trace = busForm s.bus s.tarAddr := h.traceOk

/-- The controller invariant reads the controller's side of the state only. -/
theorem SameController.inv {s t : State} (same : SameController s t) (h : s.Inv) : t.Inv := by
  have hen : t.enabled = s.enabled := State.enabled_congr same.icEnable
  have htar : t.tarAddr = s.tarAddr := State.tarAddr_congr same.icTar
  refine ⟨?_, ?_, ?_, ?_, ?_, ?_, ?_, ?_, (?_ : traceForm t.trace = busForm t.bus t.tarAddr)⟩
  · simpa only [same.fifo, same.params] using h.fifoBound
  · simpa only [hen, same.fifo, same.bus, same.held] using h.disabledQuiet
  · simpa only [same.txAbort, same.fifo, same.bus, same.held] using h.abortQuiet
  · simpa only [same.held, same.bus] using h.heldOpen
  · simpa only [same.icCon] using h.conOk
  · simpa only [same.icTar] using h.tarOk
  · simpa only [same.icEnable] using h.enableOk
  · simpa only [same.fifo, same.icCon] using h.restartOk
  · simpa only [same.trace, same.bus, htar] using h.traceForm_eq

/-- Clearing bit 10 leaves every other bit of an IC_CON word (R25). -/
theorem conClearBit10_getLsbD (v : Word) (n : Nat) :
    (conClearBit10 v).getLsbD n = (v.getLsbD n && !decide (n = 10)) := by
  rcases Nat.lt_or_ge n 32 with hn | hn
  · have hmask : (~~~(1#32 <<< 10)).getLsbD n = !decide (n = 10) := by interval_cases n <;> rfl
    rw [conClearBit10, BitVec.getLsbD_and, hmask]
  · simp [BitVec.getLsbD_of_ge _ n hn]

/-- An admitted IC_CON word stays admitted when bit 10 is cleared (R25, R101). -/
theorem conAdmitted_conClearBit10 (v : Word) : conAdmitted (conClearBit10 v) = conAdmitted v := by
  have hreserved : conReserved (conClearBit10 v) = conReserved v := by
    apply BitVec.eq_of_getLsbD_eq
    intro i hi
    simp [conReserved, conClearBit10_getLsbD, show 11 + i ≠ 10 by omega]
  have hspeed : conSpeed (conClearBit10 v) = conSpeed v := by
    apply BitVec.eq_of_getLsbD_eq
    intro i hi
    simp [conSpeed, conClearBit10_getLsbD, show 1 + i ≠ 10 by omega]
  simp only [conAdmitted, hreserved, hspeed, conMasterMode, con10BitAddrMaster, conSlaveDisable, conClearBit10_getLsbD]
  simp

/-- Every move of the thread keeps the invariant: a configuration store finds the controller disabled and so quiet, a push
finds it enabled, not aborted and with room, and a store that disables it finds nothing in progress. -/
theorem ThreadMove.inv {s t : State} (move : ThreadMove s t) (h : s.Inv) : t.Inv := by
  cases move with
  | keep same => exact same.inv h
  | con v admitted disabled same =>
    obtain ⟨hfifo, -, -⟩ := h.disabledQuiet disabled
    exact same.inv { h with
      conOk := ⟨(conAdmitted_conClearBit10 v).trans admitted, (conClearBit10_getLsbD v 10).trans (by simp)⟩
      restartOk := by simp [hfifo] }
  | tar v admitted disabled same =>
    obtain ⟨-, hbus, -⟩ := h.disabledQuiet disabled
    have htrace : traceForm s.trace = .closed := by simpa [hbus, busForm] using h.traceForm_eq
    exact same.inv { h with tarOk := admitted, traceOk := by simp [hbus, htrace] }
  | push e enabled noAbort room restart same =>
    exact same.inv { h with
      fifoBound := by
        have := h.fifoBound
        simp; omega
      disabledQuiet := fun hd => by cases enabled.symm.trans hd
      abortQuiet := fun ha => by cases noAbort.symm.trans ha
      restartOk := by
        intro d hd hr
        rcases List.mem_append.1 hd with hd | hd
        · exact h.restartOk d hd hr
        · cases List.mem_singleton.1 hd
          exact restart hr }
  | enable v admitted quiet same =>
    exact same.inv { h with
      enableOk := admitted
      disabledQuiet := fun hd => by
        obtain he | ⟨hbus, hheld, hfifo⟩ := quiet
        · cases he.symm.trans hd
        · exact ⟨hfifo, hbus, hheld⟩ }

/-- A bus move of an enabled controller keeps the invariant. -/
theorem BusMove.inv {s : State} {evs : List BusEvent} {q : List Entry} {b : Bus} (move : BusMove s evs q b) (h : s.Inv)
    (he : s.ctrlEnabled = true) : (s.busMove evs q b).Inv := by
  obtain ⟨hen, -, hheld, hab, -⟩ := (ctrlEnabled_iff s).1 he
  exact { h with
    fifoBound := move.length_le.trans h.fifoBound
    disabledQuiet := fun hd => by cases hen.symm.trans hd
    abortQuiet := fun ha => by cases hab.symm.trans ha
    heldOpen := fun hh => by cases hheld.symm.trans hh
    restartOk := fun e hq hr => h.restartOk e (move.restart e hq hr) hr
    traceOk := by
      show traceForm (s.trace ++ evs) = busForm b s.tarAddr
      rw [traceForm_append, h.traceForm_eq, move.form] }

/-- Both outcomes of a NACK keep the invariant of a controller inside a transaction: ABORT closes it and empties the FIFO,
HOLD leaves it open (R114). -/
theorem nackOutcome_inv {s : State} (h : s.Inv) (hb : s.bus = .active) (hen : s.enabled = true) (hab : s.txAbort = false)
    (hheld : s.held = false) (o : NackChoice) : (nackOutcome o s).Inv := by
  cases o with
  | abort =>
    exact { h with
      fifoBound := Nat.zero_le _
      disabledQuiet := fun _ => ⟨rfl, rfl, hheld⟩
      abortQuiet := fun _ => ⟨rfl, rfl, hheld⟩
      heldOpen := fun hh => by cases hheld.symm.trans hh
      restartOk := fun _ he => by cases he
      traceOk := by
        show traceForm (s.trace ++ [.stop]) = .closed
        rw [traceForm_append, h.traceForm_eq, hb]
        rfl }
  | hold =>
    exact { h with
      disabledQuiet := fun hd => by cases hen.symm.trans hd
      abortQuiet := fun ha => by cases hab.symm.trans ha
      heldOpen := fun _ => hb }

/-- Every answer to an enabled controller keeps the invariant. -/
theorem CtrlMove.inv {s t : State} {o : NackChoice} {r : Answer} (move : CtrlMove s o r t) (h : s.Inv)
    (he : s.ctrlEnabled = true) : t.Inv := by
  obtain ⟨hen, -, hheld, hab, -⟩ := (ctrlEnabled_iff s).1 he
  cases move with
  | stall => exact h
  | ack evs q b move => exact move.inv h he
  | nack evs q b opened move => exact nackOutcome_inv (move.inv h he) opened hen hab hheld o

/-- Settles O46: the invariant survives CTRL's step and every move of the thread. -/
theorem controllerInvariantIsKept : Obligations.ControllerInvariantIsKept := by
  intro s t h hstep
  have hdraw : s.draw.Inv := (sameController_draw s).inv h
  obtain ⟨-, he, rfl⟩ | ⟨-, move⟩ := step_controller hstep
  · exact (ctrlMove_of_ctrlEnabled he).inv hdraw ((State.draw_ctrlEnabled s).trans he)
  · exact move.inv hdraw

/-- Settles O44: CTRL's moves only emit and shorten the FIFO, the thread's moves only lengthen it. -/
theorem eachAgentKeepsToItsSideOfTheFifo : Obligations.EachAgentKeepsToItsSideOfTheFifo := by
  intro s t hstep
  obtain ⟨hs, he, rfl⟩ | ⟨hs, move⟩ := step_controller hstep
  · have move := ctrlMove_of_ctrlEnabled he
    exact ⟨by simpa using move.trace_prefix, fun hn => absurd hs hn,
      fun _ => ⟨by simpa using move.fifo_length_le, by simp⟩⟩
  · obtain ⟨-, hbus, -, -, htrace, hfifo⟩ := move.frame
    simp only [State.draw_trace, State.draw_bus, State.draw_fifo] at hbus htrace hfifo
    exact ⟨htrace ▸ List.prefix_rfl, fun _ => ⟨htrace, hfifo, hbus⟩, fun hn => absurd hn hs⟩

/-- Settles O45: the thread leaves both marks alone, and CTRL's move says when it sets which. -/
theorem abortAndHoldAreNeverCleared : Obligations.AbortAndHoldAreNeverCleared := by
  intro s t hstep
  obtain ⟨hs, he, rfl⟩ | ⟨-, move⟩ := step_controller hstep
  · have move := ctrlMove_of_ctrlEnabled he
    rw [move.txAbort, move.held]
    simp +contextual [hs]
  · obtain ⟨-, -, hab, hheld, -, -⟩ := move.frame
    simp [hab, hheld]

/-- IC_CON and IC_TAR move only while disabled (R38, R244). -/
theorem ThreadMove.config {s t : State} (move : ThreadMove s t) (h : t.icCon ≠ s.icCon ∨ t.icTar ≠ s.icTar) :
    s.enabled = false := by
  cases move with
  | con _ _ disabled _ => exact disabled
  | tar _ _ disabled _ => exact disabled
  | keep same | push _ _ _ _ _ same | enable _ _ _ same => simp [same.icCon, same.icTar] at h

/-- ENABLE is cleared only with nothing in progress (R106, R253). -/
theorem ThreadMove.disable {s t : State} (move : ThreadMove s t) (hs : s.enabled = true) (ht : t.enabled = false) :
    s.bus = .idle ∧ s.held = false ∧ s.fifo = [] := by
  cases move with
  | enable v _ quiet same =>
    refine quiet.resolve_left fun hv => ?_
    have hen : t.enabled = enableEnable v := State.enabled_congr same.icEnable
    simp [hen, hv] at ht
  | keep same | con _ _ _ same | tar _ _ _ same | push _ _ _ _ _ same =>
    have hen : t.enabled = s.enabled := State.enabled_congr same.icEnable
    simp [hen, hs] at ht

/-- Settles O53: CTRL stores to no register, and a move of the thread stores under its checks. -/
theorem configurationChangesOnlyWhileDisabled : Obligations.ConfigurationChangesOnlyWhileDisabled := by
  intro s t hstep
  obtain ⟨-, -, rfl⟩ | ⟨-, move⟩ := step_controller hstep
  · simp +contextual
  · obtain ⟨hparams, -⟩ := move.frame
    exact ⟨by simpa using hparams, by simpa using move.config, by simpa using move.disable⟩

end Sys2Proof.Machine
end

section
/-! PROOF. What a step can do to SEQ's side of the state: its position, the phase and `init_done`. Both of the latter move
only in the step that completes an operation. -/

namespace Sys2Proof.Machine

/-- The position invariant reads the position and the parameters only. -/
theorem State.posOk_congr {s t : State} (hpos : t.pos = s.pos) (hparams : t.params = s.params) : t.posOk ↔ s.posOk := by
  unfold State.posOk
  rw [hpos, hparams]

theorem State.posOk_of_idle {s : State} (h : s.pos = .idle) : s.posOk := by
  simp [State.posOk, h]

theorem State.posOk_at {s : State} {op : Instr} {k : Point} (h : s.pos = .at op k) :
    s.posOk ↔ accessAt s.params op k ≠ none := by
  simp [State.posOk, h]

/-- A raw program is entered and continued at an access that is left, or SEQ is IDLE (R88). -/
theorem State.posOk_rawPos {s : State} {accesses : List Access} (h : s.pos = rawPos accesses) : s.posOk := by
  cases accesses <;> simp [State.posOk, h, rawPos]

/-- After an access at a point of an operation SEQ stays there, stands at another of its points, or completes the operation
from its last configuration write or from a poll for idle that found ACTIVITY 0 (R23, R140, R141). -/
theorem advance_cases {op : Instr} {k : Point} {s : State} (h : accessAt s.params op k ≠ none) :
    advance op k s = s ∨
    (∃ k', advance op k s = s.setPos (.at op k') ∧ accessAt s.params op k' ≠ none) ∨
    (advance op k s = complete op s ∧
      ((∃ n, k = .cfg n ∧ (cfgAccesses op).length = n + 1) ∨
       (∃ j, k = .pollIdle j ∧ j < (transfers s.params op).length ∧ statusActivity s.rdata = false))) := by
  cases k with
  | cfg n =>
    rw [accessAt_cfg_ne_none] at h
    simp only [advance]
    split_ifs with hn
    · exact .inr (.inl ⟨_, rfl, accessAt_cfg_ne_none.2 hn⟩)
    · exact .inr (.inr ⟨rfl, .inl ⟨n, rfl, by omega⟩⟩)
  | pollTfnf j i =>
    rw [accessAt_pollTfnf_ne_none] at h
    simp only [advance]
    split_ifs
    · exact .inr (.inl ⟨_, rfl, accessAt_push_ne_none.2 h⟩)
    · exact .inl rfl
  | push j i =>
    rw [accessAt_push_ne_none] at h
    simp only [advance]
    split_ifs with hi
    · exact .inr (.inl ⟨_, rfl, accessAt_pollTfnf_ne_none.2 hi⟩)
    · have hj : j < (transfers s.params op).length := by
        by_contra hj
        simp [List.getD_eq_getElem?_getD, List.getElem?_eq_none (Nat.le_of_not_lt hj)] at h
      exact .inr (.inl ⟨_, rfl, accessAt_pollIdle_ne_none.2 hj⟩)
  | pollIdle j =>
    rw [accessAt_pollIdle_ne_none] at h
    simp only [advance]
    split_ifs with ha
    · exact .inl rfl
    · obtain hpoint | ⟨heq, -⟩ := enterTransfer_point op (j + 1) s
      · exact .inr (.inl hpoint)
      · exact .inr (.inr ⟨heq, .inr ⟨j, rfl, h, by simpa using ha⟩⟩)

/-- The states whose thread step can complete `op`: at its last configuration write (R140), at a poll for idle that reads
ACTIVITY 0 (R141), or with SEQ idle and a request for `op`, which has no transfer to perform (R23, log 11). -/
inductive Completes (s : State) (op : Instr) : Prop
  | config (n : Nat) (pos : s.pos = .at op (.cfg n)) (last : (cfgAccesses op).length = n + 1)
  | poll (j : Nat) (pos : s.pos = .at op (.pollIdle j)) (isTransfer : j < (transfers s.params op).length)
      (quiet : s.activity = false)
  | empty (w : BitVec 16) (l : List Byte) (rest : Program) (pos : s.pos = .idle) (program : s.program = .request w l rest)
      (decodes : decode (.op w l) = .ok op) (noTransfers : transfers s.params op = [])
      (notInitialize : ∀ spd a7, op ≠ .initializeOp spd a7)

/-- SEQ's side of a step: the phase and `init_done` stay and a position at a point stays at one, or an operation
completes. -/
inductive SequencerMove (s t : State) : Prop
  | stay (phase : t.phase = s.phase) (initDone : t.initDone = s.initDone) (point : s.posOk → t.posOk)
  | complete (op : Instr) (u : State) (how : Completes s op) (phase : u.phase = s.phase) (initDone : u.initDone = s.initDone)
      (eq : t = complete op u)

/-- A step that leaves SEQ's side alone. -/
theorem SequencerMove.ofUnchanged {s t : State} (hpos : t.pos = s.pos) (hparams : t.params = s.params)
    (hphase : t.phase = s.phase) (hinit : t.initDone = s.initDone) : SequencerMove s t :=
  .stay hphase hinit (State.posOk_congr hpos hparams).2

theorem callerStep_sequencer {s t : State} (hpos : s.pos = .idle) (h : callerStep s = .next t) : SequencerMove s t := by
  obtain ⟨-, rfl⟩ | ⟨w, l, rest, i, hprog, hdec, hexec⟩ | ⟨body, rest, -, rfl⟩ | ⟨n, body, rest, -, rfl⟩ |
    ⟨body, rest, -, rfl⟩ | ⟨as, rest, -, rfl⟩ := callerStep_next h
  · exact .ofUnchanged rfl rfl rfl rfl
  · obtain ⟨k, rfl, hk⟩ | ⟨rfl, hts, hi⟩ := exec_operation_cases (decodeOp_isOperation hdec) hexec
    · exact .stay rfl rfl fun _ => (State.posOk_at rfl).2 hk
    · exact .complete i (s.setProgram rest) (.empty w l rest hpos hprog hdec hts hi) rfl rfl rfl
  · exact .ofUnchanged rfl rfl rfl rfl
  · exact .ofUnchanged rfl rfl rfl rfl
  · exact .ofUnchanged rfl rfl rfl rfl
  · exact .stay rfl rfl fun _ => State.posOk_rawPos rfl

theorem seqStep_sequencer {op : Instr} {k : Point} {s t : State} (hpos : s.pos = .at op k) (h : seqStep op k s = .next t) :
    SequencerMove s t := by
  obtain ⟨-, rfl⟩ | ⟨i, u, hi, hexec, rfl⟩ := seqStep_next h
  · exact .ofUnchanged rfl rfl rfl rfl
  obtain ⟨hparams, hphase, hinit, hupos, -⟩ := exec_access_frame (accessAt_isAccess hi) hexec
  have hpoint : accessAt u.params op k ≠ none := by simp [hparams, hi]
  obtain heq | ⟨k', heq, hk'⟩ | ⟨heq, ⟨n, rfl, hn⟩ | ⟨j, rfl, hj, ha⟩⟩ := advance_cases hpoint
  · rw [heq]
    exact .ofUnchanged hupos hparams hphase hinit
  · rw [heq]
    exact .stay hphase hinit fun _ => (State.posOk_at rfl).2 hk'
  · exact .complete op u (.config n hpos hn) hphase hinit heq
  · obtain rfl := accessAt_pollIdle_eq hi
    cases hexec
    exact .complete op _ (.poll j hpos hj (by simpa using ha)) hphase hinit heq

theorem rawStep_sequencer {a : Access} {rest : List Access} {s t : State} (h : rawStep a rest s = .next t) :
    SequencerMove s t := by
  obtain ⟨i, u, hi, hexec, hu⟩ := rawStep_next h
  obtain ⟨hparams, hphase, hinit, hupos, -⟩ := exec_access_frame (decodeAccess_isAccess hi) hexec
  obtain ⟨-, rfl⟩ | ⟨-, rfl⟩ := hu
  · exact .stay hphase hinit fun _ => State.posOk_rawPos rfl
  · exact .ofUnchanged hupos hparams hphase hinit

theorem threadStep_sequencer {s t : State} (h : threadStep s = .next t) : SequencerMove s t := by
  obtain ⟨hpos, h⟩ | ⟨op, k, hpos, h⟩ | ⟨-, rfl⟩ | ⟨a, rest, -, h⟩ := threadStep_next h
  · exact callerStep_sequencer hpos h
  · exact seqStep_sequencer hpos h
  · exact .stay rfl rfl fun _ => State.posOk_of_idle rfl
  · exact rawStep_sequencer h

/-- Drawing the free choice changes nothing that completion depends on. -/
theorem Completes.of_draw {s : State} {op : Instr} (h : Completes s.draw op) : Completes s op := by
  cases h with
  | config n pos last => exact .config n (by simpa using pos) last
  | poll j pos isTransfer quiet => exact .poll j (by simpa using pos) (by simpa using isTransfer) (by simpa using quiet)
  | empty w l rest pos program decodes noTransfers notInitialize =>
    exact .empty w l rest (by simpa using pos) (by simpa using program) decodes (by simpa using noTransfers) notInitialize

theorem SequencerMove.of_draw {s t : State} (h : SequencerMove s.draw t) : SequencerMove s t := by
  cases h with
  | stay phase initDone point =>
    have hdraw : s.draw.posOk ↔ s.posOk := State.posOk_congr (by simp) (by simp)
    exact .stay (by simpa using phase) (by simpa using initDone) fun h => point (hdraw.2 h)
  | complete op u how phase initDone eq =>
    exact .complete op u how.of_draw (by simpa using phase) (by simpa using initDone) eq

/-- A step on SEQ's side. -/
theorem step_sequencer {s t : State} (h : step s = .next t) : SequencerMove s t := by
  obtain ⟨-, ⟨-, -, rfl⟩ | ⟨-, -, h⟩ | ⟨-, -, f, -, rfl⟩ | ⟨-, -, q, -, rfl⟩ | ⟨-, rfl⟩⟩ := step_cases h
  · exact .ofUnchanged (by simp) (by simp) (by simp) (by simp)
  · exact (threadStep_sequencer h).of_draw
  all_goals exact .ofUnchanged (by simp) (by simp) (by simp) (by simp)

/-- Settles O50: SEQ moves to points only, and a completed operation leaves it IDLE. -/
theorem positionStaysAtAPoint : Obligations.PositionStaysAtAPoint := by
  intro s t h hstep
  cases step_sequencer hstep with
  | stay _ _ point => exact point h
  | complete op u _ _ _ eq => exact State.posOk_of_idle (eq ▸ complete_pos op u)

/-- Only INITIALIZE moves the phase when it completes (R140). -/
theorem complete_phase_eq {op : Instr} (h : ∀ spd a7, op ≠ .initializeOp spd a7) (s : State) :
    (complete op s).phase = s.phase := by
  obtain ⟨spd, a7, rfl, -⟩ | ⟨-, heq⟩ | ⟨-, -, heq⟩ := complete_cases op s
  · exact absurd rfl (h spd a7)
  · simp [heq]
  · simp [heq]

/-- Only INIT_SEQUENCE sets `init_done` when it completes (R163). -/
theorem complete_initDone_eq {op : Instr} (h : op ≠ .initSequence) (s : State) :
    (complete op s).initDone = s.initDone := by
  obtain ⟨spd, a7, -, heq⟩ | ⟨rfl, -⟩ | ⟨-, -, heq⟩ := complete_cases op s
  · simp [heq]
  · exact absurd rfl h
  · simp [heq]

/-- INITIALIZE completes at its fourth configuration write only: it performs no transfer (R140). -/
theorem Completes.pos_of_initializeOp {s : State} {spd : BitVec 2} {a7 : BitVec 7} (h : Completes s (.initializeOp spd a7)) :
    s.pos = .at (.initializeOp spd a7) (.cfg 3) := by
  cases h with
  | config n pos last =>
    obtain rfl : n = 3 := by simpa [cfgAccesses, initializeAccesses] using last.symm
    exact pos
  | poll j _ isTransfer _ => simp [transfers_initializeOp] at isTransfer
  | empty w l rest _ _ _ _ notInitialize => exact absurd rfl (notInitialize spd a7)

/-- INIT_SEQUENCE completes at a poll for idle, or, with an empty table, when it is taken (R163, log 11). -/
theorem Completes.cases_of_initSequence {s : State} (h : Completes s .initSequence) :
    (∃ j, s.pos = .at .initSequence (.pollIdle j) ∧ s.activity = false) ∨
    (s.pos = .idle ∧ s.params.initTable = [] ∧
      ∃ w l rest, s.program = .request w l rest ∧ decode (.op w l) = .ok .initSequence) := by
  cases h with
  | config n _ last => simp [cfgAccesses] at last
  | poll j pos _ quiet => exact .inl ⟨j, pos, quiet⟩
  | empty w l rest pos program decodes noTransfers _ =>
    exact .inr ⟨pos, by simpa [transfers, commandTransfers] using noTransfers, w, l, rest, program, decodes⟩

/-- Settles O51: only the completion of an operation can move the phase, and that operation is INITIALIZE. -/
theorem phaseMovesOnlyWhenInitializeCompletes : Obligations.PhaseMovesOnlyWhenInitializeCompletes := by
  intro s t hstep hne
  cases step_sequencer hstep with
  | stay phase _ _ => exact absurd phase hne
  | complete op u how phase _ eq =>
    subst eq
    by_cases hop : ∃ spd a7, op = .initializeOp spd a7
    · obtain ⟨spd, a7, rfl⟩ := hop
      have hready : (complete (.initializeOp spd a7) u).phase = .ready := rfl
      have huninit : s.phase = .uninit := by
        cases hs : s.phase with
        | uninit => rfl
        | ready => exact absurd (hready.trans hs.symm) hne
      exact ⟨huninit, hready, complete_pos _ u, spd, a7, how.pos_of_initializeOp⟩
    · push Not at hop
      exact absurd ((complete_phase_eq hop u).trans phase) hne

/-- Settles O52: only the completion of an operation can move `init_done`, and that operation is INIT_SEQUENCE. -/
theorem initDoneIsSetOnlyByInitSequence : Obligations.InitDoneIsSetOnlyByInitSequence := by
  intro s t hstep hne
  cases step_sequencer hstep with
  | stay _ initDone _ => exact absurd initDone hne
  | complete op u how _ initDone eq =>
    subst eq
    by_cases hop : op = .initSequence
    · subst hop
      exact ⟨rfl, rfl, how.cases_of_initSequence⟩
    · exact absurd ((complete_initDone_eq hop u).trans initDone) hne

/-- Settles O27: a taken operation moves SEQ, or completes at once, which sets `init_done` for INIT_SEQUENCE alone. -/
theorem takingAnOperationLeavesTheRestUnchanged : Obligations.TakingAnOperationLeavesTheRestUnchanged := by
  intro i s t ho h
  obtain ⟨k, rfl, -⟩ | ⟨rfl, hts, hi⟩ := exec_operation_cases ho h
  · exact ⟨rfl, fun hne => absurd rfl hne⟩
  obtain ⟨spd, a7, rfl, -⟩ | ⟨rfl, heq⟩ | ⟨-, -, heq⟩ := complete_cases i s
  · exact absurd rfl (hi spd a7)
  · exact ⟨rfl, fun _ => ⟨rfl, by simpa [transfers, commandTransfers] using hts, rfl⟩⟩
  · exact ⟨heq ▸ rfl, fun hne => absurd (heq ▸ rfl) hne⟩

end Sys2Proof.Machine
end

section
/-! PROOF. Which instruction a thread step runs, that a stopped run takes no step, and the launch state. -/

namespace Sys2Proof.Machine

theorem running_of_threadEnabled {s : State} (h : s.threadEnabled = true) : s.fault = none ∧ s.refused = none := by
  simp only [State.threadEnabled, Bool.and_eq_true, Option.isNone_iff_eq_none] at h
  obtain ⟨⟨-, hf⟩, hr⟩ := h
  exact ⟨hf, hr⟩

/-- A step the thread takes is the thread's step, a stop of it recorded as the mark (R39, R205). -/
theorem step_of_thread {s : State} (h : s.stepper = some .thread) : step s = recordMark s.draw (threadStep s.draw) := by
  rw [step_running (running_of_threadEnabled (threadEnabled_of_stepper h)), h]

theorem threadStep_request {s : State} {w : BitVec 16} {l : List Byte} {rest : Program} (hpos : s.pos = .idle)
    (hprog : s.program = .request w l rest) :
    threadStep s = execDecoded (decode (.op w l)) (s.setProgram rest) := by
  simp [threadStep, hpos, callerStep, hprog]

theorem threadStep_at {s : State} {op i : Instr} {k : Point} (hpos : s.pos = .at op k)
    (hi : accessAt s.params op k = some i) : threadStep s = thenDo (exec i s) (advance op k) := by
  simp [threadStep, hpos, seqStep, hi]

/-- Settles O8: CALLER's step is the decoded request's, or its refusal. -/
theorem stepRunsTheOfferedOperation : Obligations.StepRunsTheOfferedOperation := by
  intro s w l rest hs hpos hprog
  rw [step_of_thread hs, threadStep_request (by simpa using hpos) (by simpa using hprog)]
  exact ⟨fun i hi => by rw [hi]; rfl, fun e he => by rw [he]; rfl⟩

/-- Settles O9: SEQ's step at a point is the point's access, then the next point. -/
theorem stepRunsTheAccessOfThePoint : Obligations.StepRunsTheAccessOfThePoint := by
  intro s op i k hs hpos hi
  rw [step_of_thread hs, threadStep_at (by simpa using hpos) (by simpa using hi)]

/-- Settles O13: a step that answers a next state starts from a running state. -/
theorem stoppedRunTakesNoStep : Obligations.StoppedRunTakesNoStep := by
  intro s
  refine ⟨fun f hf t ht => ?_, fun q hq t ht => ?_⟩
  · obtain ⟨⟨hrun, -⟩, -⟩ := step_cases ht
    simp [hrun] at hf
  · obtain ⟨⟨-, hrun⟩, -⟩ := step_cases ht
    simp [hrun] at hq

theorem inv_reset : State.reset.Inv where
  fifoBound := Nat.zero_le _
  disabledQuiet _ := ⟨rfl, rfl, rfl⟩
  abortQuiet _ := ⟨rfl, rfl, rfl⟩
  heldOpen h := by cases h
  conOk := by decide
  tarOk := by decide
  enableOk := by decide
  restartOk _ h := by cases h
  traceOk := rfl

theorem operationInv_reset : State.reset.OperationInv where
  programRawFree := rfl
  posRawFree _ h := by cases h
  uninit _ := ⟨rfl, rfl, rfl, rfl, fun _ _ h => by cases h⟩
  ready h := by cases h
  pushRoom _ _ _ h := by cases h

theorem ok_panelReset : Panel.reset.Ok where
  colStart := by decide
  colEnd := by decide
  col := by decide
  pageStart := by decide
  pageEnd := by decide
  page := by decide
  colWindow := by decide
  pageWindow := by decide
  ram := rfl
  cells _ h := by cases h

/-- Settles O47: each invariant holds of the launch state, and the default table has every category in order. -/
theorem invariantsHoldAtLaunch : Obligations.InvariantsHoldAtLaunch := by
  refine ⟨inv_reset, operationInv_reset, State.posOk_of_idle rfl, fun p hp => ?_, by decide⟩
  cases hp
  exact ok_panelReset

/-- Settles O56: the fields of the launch state, and the status word computed from them. -/
theorem launchStateIsAsStated : Obligations.LaunchStateIsAsStated :=
  ⟨rfl, rfl, rfl, rfl, rfl, rfl, rfl, rfl, rfl, rfl, rfl, rfl, rfl, by decide⟩

end Sys2Proof.Machine
end

section
/-! PROOF. The interleaving of the agents: a running machine's step, by the agent that takes it (R64). -/

namespace Sys2Proof.Machine

/-- Settles O12: the stepper names the agent of the step, and only an enabled agent is ever the stepper. -/
theorem stepIsOneStepOfOneEnabledAgent : Obligations.StepIsOneStepOfOneEnabledAgent := by
  intro s hrun
  cases hs : s.stepper with
  | none =>
    obtain ⟨hctrl, hthread⟩ := stepper_none_iff.1 hs
    exact .inr (.inr ⟨hctrl, hthread, by rw [step_running hrun, hs]⟩)
  | some agent =>
    cases agent with
    | ctrl => exact .inl ⟨ctrlEnabled_of_stepper hs, by rw [step_running hrun, hs]⟩
    | thread => exact .inr (.inl ⟨threadEnabled_of_stepper hs, step_of_thread hs⟩)

end Sys2Proof.Machine
end

section
/-! PROOF. The words of the two opcode maps (R78, R79): the encoder fills the fields that the decoder reads (R71), and an
opcode row fixes the fields under its mask. -/

namespace Sys2Proof

/-! The fields of the two OP words that carry operands (R140, R161). The parts of a word stand in disjoint bits, so the
word's number is the sum of theirs. -/

theorem initializeWord_toNat (spd : BitVec 2) (a7 : BitVec 7) :
    (initializeWord spd a7).toNat = 32 * a7.toNat + 8 * spd.toNat := by
  have hdisjoint : spd.setWidth 16 <<< 3 &&& a7.setWidth 16 <<< 5 = 0#16 := by
    ext i hi
    simp only [BitVec.getElem_and, BitVec.getElem_shiftLeft, BitVec.getElem_zero, Bool.and_eq_false_imp]
    grind
  rw [initializeWord, ← BitVec.add_eq_or_of_and_eq_zero _ _ hdisjoint]
  bv_omega

theorem sendCommandWord_toNat (b : Byte) : (sendCommandWord b).toNat = 8 * b.toNat + 2 := by
  have hdisjoint : 0x0002#16 &&& b.setWidth 16 <<< 3 = 0#16 := by
    revert b; decide
  rw [sendCommandWord, ← BitVec.add_eq_or_of_and_eq_zero _ _ hdisjoint]
  bv_omega

@[simp] theorem opOpc_initializeWord (spd : BitVec 2) (a7 : BitVec 7) : opOpc (initializeWord spd a7) = 0#3 := by
  simp only [BitVec.toNat_eq, opOpc, BitVec.extractLsb'_toNat, initializeWord_toNat]
  bv_omega

@[simp] theorem opSpd_initializeWord (spd : BitVec 2) (a7 : BitVec 7) : opSpd (initializeWord spd a7) = spd := by
  simp only [BitVec.toNat_eq, opSpd, BitVec.extractLsb'_toNat, initializeWord_toNat]
  omega

@[simp] theorem opA7_initializeWord (spd : BitVec 2) (a7 : BitVec 7) : opA7 (initializeWord spd a7) = a7 := by
  simp only [BitVec.toNat_eq, opA7, BitVec.extractLsb'_toNat, initializeWord_toNat]
  omega

@[simp] theorem mbz_initializeWord (spd : BitVec 2) (a7 : BitVec 7) :
    (initializeWord spd a7).extractLsb' 12 4 = 0#4 := by
  simp only [BitVec.toNat_eq, BitVec.extractLsb'_toNat, initializeWord_toNat]
  bv_omega

@[simp] theorem opOpc_sendCommandWord (b : Byte) : opOpc (sendCommandWord b) = 2#3 := by
  simp only [BitVec.toNat_eq, opOpc, BitVec.extractLsb'_toNat, sendCommandWord_toNat]
  bv_omega

@[simp] theorem opB8_sendCommandWord (b : Byte) : opB8 (sendCommandWord b) = b := by
  simp only [BitVec.toNat_eq, opB8, BitVec.extractLsb'_toNat, sendCommandWord_toNat]
  omega

@[simp] theorem mbz_sendCommandWord (b : Byte) : (sendCommandWord b).extractLsb' 11 5 = 0#5 := by
  simp only [BitVec.toNat_eq, BitVec.extractLsb'_toNat, sendCommandWord_toNat]
  bv_omega

/-! A word is made of its fields. -/

theorem initializeWord_fields {w : BitVec 16} (hopc : opOpc w = 0#3) (hmbz : w.extractLsb' 12 4 = 0#4) :
    initializeWord (opSpd w) (opA7 w) = w := by
  simp only [BitVec.toNat_eq, opOpc, opSpd, opA7, BitVec.extractLsb'_toNat, initializeWord_toNat] at *
  bv_omega

theorem sendCommandWord_fields {w : BitVec 16} (hopc : opOpc w = 2#3) (hmbz : w.extractLsb' 11 5 = 0#5) :
    sendCommandWord (opB8 w) = w := by
  simp only [BitVec.toNat_eq, opOpc, opB8, BitVec.extractLsb'_toNat, sendCommandWord_toNat] at *
  bv_omega

/-- With no operand field, OPC is the whole word. -/
theorem eq_setWidth_opOpc {w : BitVec 16} (hmbz : w.extractLsb' 3 13 = 0#13) : w = (opOpc w).setWidth 16 := by
  simp only [BitVec.toNat_eq, opOpc, BitVec.extractLsb'_toNat, BitVec.toNat_setWidth] at *
  bv_omega

/-! Decoding, row by row. -/

theorem decode_initializeWord (spd : BitVec 2) (a7 : BitVec 7) (l : List Byte) :
    decode (.op (initializeWord spd a7) l) = .ok (.initializeOp spd a7) := by
  simp [decode, decodeOp]

theorem decode_sendCommandWord (b : Byte) (l : List Byte) :
    decode (.op (sendCommandWord b) l) = .ok (.sendCommand b) := by
  simp [decode, decodeOp]

/-- Settles O5: the encoder fills the fields of the instruction's row, and the decoder reads them back. -/
theorem decodeOfEncodeIsTheInstruction : Obligations.DecodeOfEncodeIsTheInstruction := by
  intro i
  cases i with
  | initializeOp spd a7 => exact decode_initializeWord spd a7 []
  | sendCommand b => exact decode_sendCommandWord b []
  | ldrIcCon | strIcCon | ldrIcTar | strIcTar | strIcDataCmd | ldrIcEnable | strIcEnable | ldrIcStatus => rfl
  | writeBuffer | sendCommandList | sendFramebuffer | initSequence => rfl

/-- The word and the operand that an OP word decoding to an instruction has (R79). -/
theorem decode_op_ok {w : BitVec 16} {l : List Byte} {i : Instr} (h : decode (.op w l) = .ok i) :
    (∃ spd a7, w = initializeWord spd a7 ∧ i = .initializeOp spd a7) ∨
    (w = 0x0001#16 ∧ i = .writeBuffer l) ∨
    (∃ b, w = sendCommandWord b ∧ i = .sendCommand b) ∨
    (w = 0x0003#16 ∧ i = .sendCommandList l) ∨
    (w = 0x0004#16 ∧ i = .sendFramebuffer l) ∨
    (w = 0x0005#16 ∧ i = .initSequence) := by
  have hfixed : ∀ c : BitVec 3, opOpc w = c → w.extractLsb' 3 13 = 0#13 → w = c.setWidth 16 :=
    fun _ hopc hmbz => hopc ▸ eq_setWidth_opOpc hmbz
  simp only [decode, decodeOp] at h
  split_ifs at h <;> cases h
  · exact .inl ⟨_, _, (initializeWord_fields ‹_› ‹_›).symm, rfl⟩
  · exact .inr (.inl ⟨hfixed 1#3 ‹_› ‹_›, rfl⟩)
  · exact .inr (.inr (.inl ⟨_, (sendCommandWord_fields ‹_› ‹_›).symm, rfl⟩))
  · exact .inr (.inr (.inr (.inl ⟨hfixed 3#3 ‹_› ‹_›, rfl⟩)))
  · exact .inr (.inr (.inr (.inr (.inl ⟨hfixed 4#3 ‹_› ‹_›, rfl⟩))))
  · exact .inr (.inr (.inr (.inr (.inr ⟨hfixed 5#3 ‹_› ‹_›, rfl⟩))))

/-- An OP word has one way of being rejected (R81). -/
theorem decode_op_error {w : BitVec 16} {l : List Byte} {e : DecodeReject} (h : decode (.op w l) = .error e) :
    e = .reservedOp := by
  simp only [decode, decodeOp] at h
  split_ifs at h <;> exact (Except.error.inj h).symm

theorem encode_of_decode_op {w : BitVec 16} {l : List Byte} {i : Instr} (hc : (Encoded.op w l).canonical = true)
    (h : decode (.op w l) = .ok i) : encode i = .op w l := by
  obtain ⟨spd, a7, rfl, rfl⟩ | ⟨rfl, rfl⟩ | ⟨b, rfl, rfl⟩ | ⟨rfl, rfl⟩ | ⟨rfl, rfl⟩ | ⟨rfl, rfl⟩ := decode_op_ok h
  case inl | inr.inr.inl | inr.inr.inr.inr.inr =>
    obtain rfl : l = [] := by simpa [Encoded.canonical, show opOpc 0x0005#16 = 5#3 from rfl] using hc
    rfl
  all_goals rfl

theorem encode_of_decode_ra {sel : BitVec 9} {w : Word} {i : Instr} (hc : (Encoded.ra sel w).canonical = true)
    (h : decode (.ra sel w) = .ok i) : encode i = .ra sel w := by
  have hread : selWrites sel = false → w = 0#32 := fun hs => by simpa [Encoded.canonical, hs] using hc
  simp only [decode, decodeRa] at h
  split_ifs at h <;> cases h <;> subst sel
  · rw [hread rfl]; rfl
  · rfl
  · rw [hread rfl]; rfl
  · rfl
  · rfl
  · rw [hread rfl]; rfl
  · rfl
  · rw [hread rfl]; rfl

/-- Settles O6: a request that decodes is its row's word, and the empty slot is the one the encoder leaves empty. -/
theorem encodeOfDecodeIsTheRequest : Obligations.EncodeOfDecodeIsTheRequest := by
  intro e i hc h
  cases e with
  | ra sel w => exact encode_of_decode_ra hc h
  | op w l => exact encode_of_decode_op hc h

/-- Settles O1: each word is decoded by its row, or by none. -/
theorem wordsOfTheSpecDecodeToTheirInstructions : Obligations.WordsOfTheSpecDecodeToTheirInstructions := fun _ _ =>
  ⟨rfl, rfl, rfl, rfl, rfl, rfl, rfl, rfl, rfl, rfl, rfl, rfl, rfl, rfl, rfl, rfl, rfl, rfl, rfl, rfl⟩

/-- Settles O2: the eight tests of R78 fail, so the two of R80 decide. -/
theorem otherSelectorsAreRefused : Obligations.OtherSelectorsAreRefused := by
  intro sel w h
  simp only [List.mem_cons, List.not_mem_nil, or_false, not_or] at h
  simp only [decode, decodeRa, h, if_false]
  split_ifs <;> rfl

/-! The rows as masks. -/

/-- Two rows that disagree on a bit of both masks fit no common word. -/
theorem OpcodeRow.not_fits_both {r q : OpcodeRow} (h : r.pattern &&& q.mask ≠ q.pattern &&& r.mask) (w : Nat) :
    ¬ (r.fits w = true ∧ q.fits w = true) := by
  rintro ⟨hr, hq⟩
  simp only [OpcodeRow.fits, beq_iff_eq] at hr hq
  exact h (by rw [← hr, ← hq, Nat.and_right_comm])

/-- Settles O4: any two rows of one map disagree on a bit that both fix. -/
theorem opcodeRowsNeverOverlap : Obligations.OpcodeRowsNeverOverlap := by
  intro rows hrows
  have hdisagree : rows.Pairwise (fun r q => r.pattern &&& q.mask ≠ q.pattern &&& r.mask) := by
    revert rows; decide
  exact hdisagree.imp OpcodeRow.not_fits_both

theorem OpcodeRow.and_mask_of_fits {r : OpcodeRow} {w : BitVec 16} (h : r.fits w.toNat = true) :
    w &&& BitVec.ofNat 16 r.mask = BitVec.ofNat 16 r.pattern := by
  simpa [OpcodeRow.fits, BitVec.ofNat_and] using congrArg (BitVec.ofNat 16) (beq_iff_eq.1 h)

/-- The row of a word with no operand field fits that word only. -/
theorem OpcodeRow.eq_of_fits_fixed {p : Nat} {w : BitVec 16} (h : OpcodeRow.fits ⟨p, 0xFFFF⟩ w.toNat = true) :
    w = BitVec.ofNat 16 p := by
  have hand := OpcodeRow.and_mask_of_fits h
  rwa [show BitVec.ofNat 16 0xFFFF = BitVec.allOnes 16 from rfl, BitVec.and_allOnes] at hand

/-- A field that the mask covers is the pattern's. -/
theorem OpcodeRow.field_of_fits {r : OpcodeRow} {w : BitVec 16} {start len : Nat} (h : r.fits w.toNat = true)
    (hmask : (BitVec.ofNat 16 r.mask).extractLsb' start len = BitVec.allOnes len) :
    w.extractLsb' start len = (BitVec.ofNat 16 r.pattern).extractLsb' start len := by
  rw [← OpcodeRow.and_mask_of_fits h, BitVec.extractLsb'_and, hmask, BitVec.and_allOnes]

theorem initializeWord_of_fits {w : BitVec 16} (h : OpcodeRow.fits ⟨0x0000, 0xF007⟩ w.toNat = true) :
    initializeWord (opSpd w) (opA7 w) = w :=
  initializeWord_fields (OpcodeRow.field_of_fits h rfl) (OpcodeRow.field_of_fits h rfl)

theorem sendCommandWord_of_fits {w : BitVec 16} (h : OpcodeRow.fits ⟨0x0002, 0xF807⟩ w.toNat = true) :
    sendCommandWord (opB8 w) = w :=
  sendCommandWord_fields (OpcodeRow.field_of_fits h rfl) (OpcodeRow.field_of_fits h rfl)

theorem fits_initializeWord (spd : BitVec 2) (a7 : BitVec 7) :
    OpcodeRow.fits ⟨0x0000, 0xF007⟩ (initializeWord spd a7).toNat = true := by
  revert spd a7; decide

theorem fits_sendCommandWord (b : Byte) : OpcodeRow.fits ⟨0x0002, 0xF807⟩ (sendCommandWord b).toNat = true := by
  revert b; decide

theorem decode_of_row_fits {w : BitVec 16} (l : List Byte) {r : OpcodeRow} (hr : r ∈ opRows)
    (h : r.fits w.toNat = true) : ∃ i, decode (.op w l) = .ok i := by
  simp only [opRows, List.mem_cons, List.not_mem_nil, or_false] at hr
  obtain rfl | rfl | rfl | rfl | rfl | rfl := hr
  case inl => exact ⟨_, initializeWord_of_fits h ▸ decode_initializeWord _ _ l⟩
  case inr.inr.inl => exact ⟨_, sendCommandWord_of_fits h ▸ decode_sendCommandWord _ l⟩
  all_goals
    obtain rfl := OpcodeRow.eq_of_fits_fixed h
    exact ⟨_, rfl⟩

theorem row_fits_of_decode {w : BitVec 16} {l : List Byte} {i : Instr} (h : decode (.op w l) = .ok i) :
    ∃ r ∈ opRows, r.fits w.toNat = true := by
  obtain ⟨spd, a7, rfl, -⟩ | ⟨rfl, -⟩ | ⟨b, rfl, -⟩ | ⟨rfl, -⟩ | ⟨rfl, -⟩ | ⟨rfl, -⟩ := decode_op_ok h
  case inl => exact ⟨_, by simp [opRows], fits_initializeWord spd a7⟩
  case inr.inr.inl => exact ⟨_, by simp [opRows], fits_sendCommandWord b⟩
  all_goals decide

/-- Settles O3: a row fits exactly the words that its instruction is encoded as. -/
theorem operationWordsDecodeExactlyByTheirRows : Obligations.OperationWordsDecodeExactlyByTheirRows := by
  intro w l
  refine ⟨fun ⟨r, hr, h⟩ => decode_of_row_fits l hr h, fun hnone => ?_⟩
  cases hd : decode (.op w l) with
  | error e => rw [decode_op_error hd]
  | ok i =>
    obtain ⟨r, hr, h⟩ := row_fits_of_decode hd
    simp [hnone r hr] at h

end Sys2Proof
end

section
/-! PROOF. Raw programs (R88): the access a step runs, and that no raw access raises an order fault; the step after a table
word is placed. -/

namespace Sys2Proof.Machine

theorem threadStep_raw {s : State} {a : Access} {rest : List Access} (hpos : s.pos = .raw (a :: rest)) :
    threadStep s = rawStep a rest s := by
  simp [threadStep, hpos]

/-- A poll is not done exactly when its condition fails on the value read (R87). -/
theorem accessDone_eq_false_iff {a : Access} {v : Word} : accessDone a v = false ↔
    (a = .pollTfnf ∧ v.getLsbD 1 = false) ∨ (a = .pollIdle ∧ v.getLsbD 0 = true) := by
  cases a <;> simp [accessDone, statusTfnf, statusActivity]

theorem rawPos_eq (accesses : List Access) : rawPos accesses = if accesses = [] then .idle else .raw accesses := by
  cases accesses <;> rfl

/-- Settles O10: SEQ's step in a raw program is the decoded access's, or its refusal. -/
theorem stepRunsTheRawAccess : Obligations.StepRunsTheRawAccess := by
  intro s a rest hs hpos
  rw [step_of_thread hs, threadStep_raw (by simpa using hpos), rawStep, State.draw_params]
  refine ⟨fun i hi => ?_, fun e he => by rw [he]; rfl⟩
  rw [hi]
  congr 2
  funext t
  simp only [← accessDone_eq_false_iff, ← rawPos_eq]
  cases accessDone a t.rdata <;> rfl

/-! A placed table word (log 8). -/

/-- With the free choice that offers the step to the thread in front, an enabled thread takes the step. -/
theorem stepper_of_threadChoice {s : State} {cs : List Choice} (hscript : s.script = threadChoice :: cs)
    (henabled : s.threadEnabled = true) : s.stepper = some .thread := by
  simp [State.stepper, State.choice_cons hscript, threadChoice, henabled]

theorem step_placeRequest_ra {s : State} {sel : BitVec 9} {w : Word} {i : Instr} (h : decode (.ra sel w) = .ok i) :
    step (placeRequest s (.ra sel w)) = recordMark (placeRequest s (.ra sel w)).draw
      (thenDo (exec i (placeRequest s (.ra sel w)).draw) (fun t => t.setPos .idle)) := by
  have hs : (placeRequest s (.ra sel w)).stepper = some .thread := stepper_of_threadChoice rfl rfl
  rw [step_of_thread hs, threadStep_raw rfl, rawStep, show decodeAccess _ (.ra sel w) = .ok i from h]
  rfl

theorem step_placeRequest_op {s : State} {w : BitVec 16} {l : List Byte} {i : Instr} (h : decode (.op w l) = .ok i) :
    step (placeRequest s (.op w l)) = recordMark (placeRequest s (.op w l)).draw
      (exec i { s with pos := .idle, fault := none, refused := none }) := by
  have hs : (placeRequest s (.op w l)).stepper = some .thread := stepper_of_threadChoice rfl rfl
  rw [step_of_thread hs, threadStep_request rfl rfl, h]
  rfl

theorem decode_of_decodeTableWord {nbits w : Nat} {i : Instr} (h : decodeTableWord nbits w = some i) :
    decode (encodedOfTableWord nbits w) = .ok i := by
  unfold decodeTableWord at h
  split at h
  · next j hj => rw [hj, Option.some.inj h]
  · cases h

/-- Settles O11: the placed request is the thread's next step, in the format that its instruction has. -/
theorem stepRunsTheFetchedTableWord : Obligations.StepRunsTheFetchedTableWord := by
  intro s nbits w i hw
  have hd := decode_of_decodeTableWord hw
  unfold State.withFetchWord
  generalize encodedOfTableWord nbits w = e at hd
  cases e with
  | ra sel v =>
    have haccess : i.isAccess = true := decodeAccess_isAccess (base := s.params.i2cBase) (a := .ra sel v) hd
    exact ⟨fun _ => step_placeRequest_ra hd, fun hop => by simp [haccess] at hop⟩
  | op v l => exact ⟨fun haccess => by simp [decodeOp_isOperation hd] at haccess, fun _ => step_placeRequest_op hd⟩

/-! Which faults a raw program can raise. -/

theorem writeRegister_fault {r : Option Refusal} {f : Option Fault} {e : State} {g : Fault}
    (h : writeRegister r f e = .fault g) : f = some g := by
  unfold writeRegister at h
  cases r <;> cases f <;> simp_all

/-- The order faults are the operations' own: no register access raises one (R101, R103, R104, R106). -/
theorem exec_access_fault {i : Instr} {s : State} {f : Fault} (hi : i.isAccess = true) (h : exec i s = .fault f) :
    f ≠ .fReinit ∧ f ≠ .fNotInitialized := by
  cases i with
  | ldrIcCon | ldrIcTar | ldrIcEnable | ldrIcStatus => cases h
  | strIcCon | strIcTar | strIcEnable =>
    have hf := writeRegister_fault h
    split_ifs at hf
    cases hf
    decide
  | strIcDataCmd v =>
    have hf := writeRegister_fault h
    unfold dataCmdFault at hf
    split_ifs at hf <;> cases hf <;> decide
  | _ => cases hi

theorem callerStep_next_fault {s t : State} (h : callerStep s = .next t) : t.fault = s.fault := by
  obtain ⟨-, rfl⟩ | ⟨w, l, rest, i, -, hdec, hexec⟩ | ⟨body, rest, -, rfl⟩ | ⟨n, body, rest, -, rfl⟩ |
    ⟨body, rest, -, rfl⟩ | ⟨as, rest, -, rfl⟩ := callerStep_next h
  case inr.inl =>
    obtain ⟨k, rfl, -⟩ | ⟨rfl, -, -⟩ := exec_operation_cases (decodeOp_isOperation hdec) hexec
    · rfl
    · simp
  all_goals rfl

/-- A thread step that answers a next state sets no fault mark (R205). -/
theorem threadStep_next_fault {s t : State} (h : threadStep s = .next t) : t.fault = s.fault := by
  obtain ⟨-, h⟩ | ⟨op, k, -, h⟩ | ⟨-, rfl⟩ | ⟨a, rest, -, h⟩ := threadStep_next h
  · exact callerStep_next_fault h
  · obtain ⟨-, rfl⟩ | ⟨i, u, hi, hexec, rfl⟩ := seqStep_next h
    · rfl
    · obtain ⟨-, -, -, -, -, -, -, -, hfault, -⟩ := exec_access_frame (accessAt_isAccess hi) hexec
      simp [hfault]
  · rfl
  · obtain ⟨i, u, hi, hexec, hu⟩ := rawStep_next h
    obtain ⟨-, -, -, -, -, -, -, -, hfault, -⟩ := exec_access_frame (decodeAccess_isAccess hi) hexec
    obtain ⟨-, rfl⟩ | ⟨-, rfl⟩ := hu
    · exact hfault
    · exact hfault

/-- A fault mark in the state after a step is the fault of the thread's step (R201, R205). -/
theorem threadStep_of_step_fault {s t : State} {f : Fault} (h : step s = .next t) (hf : t.fault = some f) :
    threadStep s.draw = .fault f := by
  obtain ⟨⟨hrun, -⟩, ⟨-, -, rfl⟩ | ⟨-, -, h⟩ | ⟨-, -, g, hg, rfl⟩ | ⟨-, -, q, -, rfl⟩ | ⟨-, rfl⟩⟩ := step_cases h
  · simp [hrun] at hf
  · simp [threadStep_next_fault h, hrun] at hf
  · cases hf
    exact hg
  · simp [hrun] at hf
  · simp [hrun] at hf

theorem rawStep_fault {a : Access} {rest : List Access} {s : State} {f : Fault} (h : rawStep a rest s = .fault f) :
    ∃ i, decodeAccess s.params.i2cBase a = .ok i ∧ exec i s = .fault f := by
  unfold rawStep at h
  cases hd : decodeAccess s.params.i2cBase a with
  | error e => simp [hd, execDecoded, thenDo] at h
  | ok i =>
    refine ⟨i, rfl, ?_⟩
    rw [hd] at h
    cases hexec : exec i s <;> simp_all [execDecoded, thenDo]

theorem threadStep_raw_fault {s : State} {accesses : List Access} {f : Fault} (hpos : s.pos = .raw accesses)
    (h : threadStep s = .fault f) : f ≠ .fReinit ∧ f ≠ .fNotInitialized := by
  cases accesses with
  | nil => simp [threadStep, hpos] at h
  | cons a rest =>
    rw [threadStep_raw hpos] at h
    obtain ⟨i, hi, hexec⟩ := rawStep_fault h
    exact exec_access_fault (decodeAccess_isAccess hi) hexec

/-- No operation completes in a raw program. -/
theorem Completes.pos_ne_raw {s : State} {op : Instr} (h : Completes s op) (accesses : List Access) :
    s.pos ≠ .raw accesses := by
  cases h with
  | config n pos _ => simp [pos]
  | poll j pos _ _ => simp [pos]
  | empty _ _ _ pos _ _ _ _ => simp [pos]

/-- Settles O54: the phase and `init_done` move only when an operation completes, and an order fault is no access's. -/
theorem rawProgramsKeepThePhase : Obligations.RawProgramsKeepThePhase := by
  intro s t accesses hpos hstep
  have hfault : ∀ f, t.fault = some f → f ≠ .fReinit ∧ f ≠ .fNotInitialized := fun f hf =>
    threadStep_raw_fault (by simpa using hpos) (threadStep_of_step_fault hstep hf)
  cases step_sequencer hstep with
  | stay phase initDone _ =>
    exact ⟨phase, initDone, fun hf => (hfault _ hf).1 rfl, fun hf => (hfault _ hf).2 rfl⟩
  | complete op u how _ _ _ => exact absurd hpos (how.pos_ne_raw accesses)

end Sys2Proof.Machine
end

section
/-! PROOF. The register accesses (R100 to R106): the fields each write admits, its refusal, its fault and its effect, and
what each access leaves unchanged. -/

namespace Sys2Proof.Machine

/-! The three answers of a register write (R204): a field refusal comes first, then a state fault, then the effect. -/

theorem writeRegister_of_refusal {r : Option Refusal} {f : Option Fault} {effect : State} {q : Refusal}
    (hr : r = some q) : writeRegister r f effect = .refused q := by
  subst hr; rfl

theorem writeRegister_of_fault {r : Option Refusal} {f : Option Fault} {effect : State} {e : Fault}
    (hr : r = none) (hf : f = some e) : writeRegister r f effect = .fault e := by
  subst hr hf; rfl

theorem writeRegister_of_passed {r : Option Refusal} {f : Option Fault} {effect : State}
    (hr : r = none) (hf : f = none) : writeRegister r f effect = .next effect := by
  subst hr hf; rfl

/-! The admission tests by the bits of the written word. -/

/-- The IC_CON words that R101 admits. -/
theorem conAdmitted_iff (v : Word) : conAdmitted v = true ↔
    v.extractLsb' 11 21 = 0 ∧ v.getLsbD 0 = true ∧ v.extractLsb' 1 2 ∈ [1#2, 2#2] ∧ v.getLsbD 4 = false ∧
      v.getLsbD 6 = true := by
  simp [conAdmitted, conReserved, conMasterMode, conSpeed, con10BitAddrMaster, conSlaveDisable, and_assoc]

/-- The IC_TAR words that R103 admits. -/
theorem tarAdmitted_iff (v : Word) : tarAdmitted v = true ↔
    v.extractLsb' 12 20 = 0 ∧ v.getLsbD 11 = false ∧ (v.extractLsb' 0 10).toNat ≤ 0x7F := by
  simp only [tarAdmitted, Bool.and_eq_true, beq_iff_eq, Bool.not_eq_true', decide_eq_true_eq, and_assoc]
  rfl

/-- A field of a word is zero exactly when each of its bits is. -/
theorem extractLsb'_eq_zero_iff {w : Nat} (v : BitVec w) (start len : Nat) :
    v.extractLsb' start len = 0 ↔ ∀ i < len, v.getLsbD (start + i) = false := by
  refine ⟨fun h i hi => ?_, fun h => BitVec.eq_of_getLsbD_eq fun i hi => ?_⟩
  · simpa [hi] using congrArg (fun u => BitVec.getLsbD u i) h
  · simp [h i hi]

/-- The IC_ENABLE words that R106 admits: ABORT, TX_CMD_BLOCK and bits 31:3 together are bits 31:1. -/
theorem enableAdmitted_iff (v : Word) : enableAdmitted v = true ↔ v.extractLsb' 1 31 = 0 := by
  have hfields : enableAdmitted v = true ↔
      v.getLsbD 1 = false ∧ v.getLsbD 2 = false ∧ v.extractLsb' 3 29 = 0 := by
    simp [enableAdmitted, enableAbort, enableTxCmdBlock, enableReserved, and_assoc]
  rw [hfields, extractLsb'_eq_zero_iff, extractLsb'_eq_zero_iff]
  refine ⟨fun ⟨habort, hblock, hreserved⟩ i hi => ?_, fun h => ⟨h 0 (by omega), h 1 (by omega), fun i hi => ?_⟩⟩
  · match i with
    | 0 => exact habort
    | 1 => exact hblock
    | i + 2 => simpa only [show 3 + i = 1 + (i + 2) by omega] using hreserved i (by omega)
  · simpa only [show 1 + (i + 2) = 3 + i by omega] using h (i + 2) (by omega)

/-! STR IC_CON and STR IC_TAR (R101, R103). -/

/-- Settles O17: the word is refused outside the admitted set, and ENABLE decides between the fault and the effect. -/
theorem strIcConFollowsItsRule : Obligations.StrIcConFollowsItsRule := by
  intro v s
  refine ⟨rfl, fun hbad => ?_, fun hres hmaster hspeed haddr hslave => ?_⟩
  · have hrefused : ¬ conAdmitted v = true := by
      rw [conAdmitted_iff]
      rintro ⟨hres, hmaster, hspeed, haddr, hslave⟩
      simp only [hres, hmaster, hspeed, haddr, hslave, ne_eq, not_true_eq_false, Bool.true_eq_false, Bool.false_eq_true,
        or_self] at hbad
    exact writeRegister_of_refusal (if_neg hrefused)
  · have hadmitted := (conAdmitted_iff v).2 ⟨hres, hmaster, hspeed, haddr, hslave⟩
    exact ⟨fun hen => writeRegister_of_fault (if_pos hadmitted) (if_pos hen),
      fun hdis => writeRegister_of_passed (if_pos hadmitted) (if_neg (ne_true_of_eq_false hdis))⟩

/-- Settles O18: the word is refused outside the admitted set, and ENABLE decides between the fault and the effect. -/
theorem strIcTarFollowsItsRule : Obligations.StrIcTarFollowsItsRule := by
  intro v s
  refine ⟨rfl, fun hbad => ?_, fun hres hspecial haddr => ?_⟩
  · have hrefused : ¬ tarAdmitted v = true := by
      rw [tarAdmitted_iff]
      rintro ⟨hres, hspecial, haddr⟩
      simp only [hres, hspecial, haddr.not_gt, ne_eq, not_true_eq_false, Bool.false_eq_true, or_self] at hbad
    exact writeRegister_of_refusal (if_neg hrefused)
  · have hadmitted := (tarAdmitted_iff v).2 ⟨hres, hspecial, haddr⟩
    exact ⟨fun hen => writeRegister_of_fault (if_pos hadmitted) (if_pos hen),
      fun hdis => writeRegister_of_passed (if_pos hadmitted) (if_neg (ne_true_of_eq_false hdis))⟩

/-! STR IC_DATA_CMD (R104). -/

theorem dataCmdRefusal_of_mbz {v : Word} {s : State} (hcmd : dataCmdCmd v = false) (hmbz : dataCmdMbz v ≠ 0) :
    dataCmdRefusal v s = some .qReserved := by
  simp_all [dataCmdRefusal]

theorem dataCmdRefusal_of_restart {v : Word} {s : State} (hcmd : dataCmdCmd v = false) (hmbz : dataCmdMbz v = 0)
    (hrestart : dataCmdRestart v = true) (hcon : conRestartEn s.icCon = false) :
    dataCmdRefusal v s = some .qRestartDisabled := by
  simp [dataCmdRefusal, hcmd, hmbz, hrestart, hcon]

/-- The data words that pass the field checks (R104). -/
theorem dataCmdRefusal_eq_none {v : Word} {s : State} (hcmd : dataCmdCmd v = false) (hmbz : dataCmdMbz v = 0)
    (hrestart : dataCmdRestart v = true → conRestartEn s.icCon = true) : dataCmdRefusal v s = none := by
  simpa [dataCmdRefusal, hcmd, hmbz] using hrestart

theorem dataCmdFault_of_disabled {s : State} (hdis : s.enabled = false) : dataCmdFault s = some .fPushDisabled := by
  simp [dataCmdFault, hdis]

theorem dataCmdFault_of_full {s : State} (hen : s.enabled = true) (hab : s.txAbort = false)
    (hfull : s.fifo.length = s.params.txFifoDepth) : dataCmdFault s = some .fPushFull := by
  simp [dataCmdFault, hen, hab, hfull]

/-- With `tx_abort` set a full FIFO is no fault (R104). -/
theorem dataCmdFault_eq_none {s : State} (hen : s.enabled = true)
    (hroom : s.txAbort = false → s.fifo.length ≠ s.params.txFifoDepth) : dataCmdFault s = none := by
  simpa [dataCmdFault, hen] using hroom

/-- A data word that passes every check is pushed, or discarded after an abort (R104). -/
theorem exec_strIcDataCmd_of_passed {v : Word} {s : State} (hr : dataCmdRefusal v s = none) (hf : dataCmdFault s = none) :
    exec (.strIcDataCmd v) s = .next (if s.txAbort then s else s.pushEntry (entryOfWord v)) :=
  writeRegister_of_passed hr hf

/-- The flags after a push into an enabled controller that has not aborted: TFE reads 0 and ACTIVITY reads 1 (R29, R104). -/
theorem pushEntry_flags {s : State} (e : Entry) (hen : s.enabled = true) (hab : s.txAbort = false) :
    (s.pushEntry e).tfe = false ∧ (s.pushEntry e).activity = true := by
  have hnonempty : (s.pushEntry e).fifo ≠ [] := List.append_ne_nil_of_right_ne_nil s.fifo (List.cons_ne_nil e [])
  exact ⟨by simp [State.tfe], (activity_iff _).2 (.inr (.inr ⟨hen, hab, hnonempty⟩))⟩

/-- A FIFO of TX_FIFO_DEPTH entries has no room (R29). -/
theorem tfnf_eq_false_of_full {s : State} (h : s.fifo.length = s.params.txFifoDepth) : s.tfnf = false := by
  simp [State.tfnf, h]

/-- Settles O19: the field checks in R104's order, then ENABLE, the discard after an abort, the room check and the push. -/
theorem strIcDataCmdFollowsItsRule : Obligations.StrIcDataCmdFollowsItsRule := by
  intro v s
  refine ⟨rfl, fun hcmd => ?_, fun hcmd hmbz => ?_, fun hcmd hmbz hrestart hcon => ?_, fun hcmd hmbz hrestart => ?_⟩
  · exact writeRegister_of_refusal (if_pos hcmd)
  · exact writeRegister_of_refusal (dataCmdRefusal_of_mbz hcmd hmbz)
  · exact writeRegister_of_refusal (dataCmdRefusal_of_restart hcmd hmbz hrestart hcon)
  have hpassed : dataCmdRefusal v s = none := dataCmdRefusal_eq_none hcmd hmbz hrestart
  refine ⟨fun hdis => ?_, fun hen hab => ?_, fun hen hab hfull => ?_, fun hen hab hroom => ?_⟩
  · exact writeRegister_of_fault hpassed (dataCmdFault_of_disabled hdis)
  · rw [exec_strIcDataCmd_of_passed hpassed (dataCmdFault_eq_none hen (by simp [hab])), if_pos hab]
  · exact writeRegister_of_fault hpassed (dataCmdFault_of_full hen hab hfull)
  · have hpush : exec (.strIcDataCmd v) s = .next (s.pushEntry (entryOfWord v)) := by
      rw [exec_strIcDataCmd_of_passed hpassed (dataCmdFault_eq_none hen fun _ => hroom), hab, if_neg Bool.false_ne_true]
    refine ⟨hpush, fun t ht => ?_⟩
    obtain rfl : s.pushEntry (entryOfWord v) = t := Host.Outcome.next.inj (hpush.symm.trans ht)
    obtain ⟨htfe, hactivity⟩ := pushEntry_flags (entryOfWord v) hen hab
    exact ⟨(icStatus_getLsbD_two _).trans htfe, (statusActivity_icStatus _).trans hactivity,
      fun hfull => (statusTfnf_icStatus _).trans (tfnf_eq_false_of_full hfull)⟩

/-! STR IC_ENABLE (R106) and the reads (R100, R102, R105). -/

/-- What R106 forbids while ENABLE is cleared: a transaction, a hold, or entries waiting. -/
theorem inProgress_iff (s : State) : (s.bus == .active || s.held || decide (0 < s.fifo.length)) = true ↔
    s.bus = .active ∨ s.held = true ∨ s.fifo ≠ [] := by
  simp only [Bool.or_eq_true, beq_iff_eq, decide_eq_true_eq, List.length_pos_iff, or_assoc]

/-- Settles O20: the word 0 asks for a quiet controller, the word 1 for nothing. -/
theorem strIcEnableFollowsItsRule : Obligations.StrIcEnableFollowsItsRule := by
  intro v s
  refine ⟨rfl, fun hbad => ?_, fun hres hclear hbusy => ?_, fun hres hquiet => ?_⟩
  · exact writeRegister_of_refusal (if_neg fun hadmitted => hbad ((enableAdmitted_iff v).1 hadmitted))
  · refine writeRegister_of_fault (if_pos ((enableAdmitted_iff v).2 hres)) (if_pos ?_)
    rw [Bool.and_eq_true, inProgress_iff]
    exact ⟨congrArg not hclear, hbusy⟩
  · refine writeRegister_of_passed (if_pos ((enableAdmitted_iff v).2 hres)) (if_neg ?_)
    rw [Bool.and_eq_true, inProgress_iff]
    rintro ⟨hclear, hbusy⟩
    obtain hset | ⟨hbus, hheld, hfifo⟩ := hquiet
    · cases hclear.symm.trans (congrArg not hset)
    · simp [hbus, hheld, hfifo] at hbusy

/-- Settles O15: each read returns its register, IC_CON with bit 10 cleared. -/
theorem readsReturnTheStoredRegister : Obligations.ReadsReturnTheStoredRegister :=
  fun _ _ => ⟨rfl, rfl, rfl, rfl, rfl, rfl⟩

/-! The frame of the accesses. -/

/-- A read changes the value returned to SEQ alone (R70). -/
theorem exec_read_next {i : Instr} {s t : State} (hi : i ∈ [Instr.ldrIcCon, .ldrIcTar, .ldrIcEnable, .ldrIcStatus])
    (h : exec i s = .next t) : t = s.setRdata t.rdata := by
  simp only [List.mem_cons, List.not_mem_nil, or_false] at hi
  obtain rfl | rfl | rfl | rfl := hi <;> cases h <;> rfl

/-- The panel observer reads the trace alone (R210). -/
theorem State.panel_congr {s t : State} (h : t.trace = s.trace) : t.panel = s.panel :=
  congrArg observe h

/-- Settles O21: each access that answers a next state is one update of its own field. -/
theorem accessesLeaveTheRestUnchanged : Obligations.AccessesLeaveTheRestUnchanged := by
  intro s t v
  refine ⟨fun i hi h => exec_read_next hi h, fun h => ?_, fun h => ?_, fun h => ?_, fun h => ?_, fun i hi h => ?_⟩
  · obtain ⟨-, -, rfl⟩ := exec_strIcCon_next h
    rfl
  · obtain ⟨-, -, rfl⟩ := exec_strIcTar_next h
    rfl
  · obtain ⟨-, -, rfl⟩ := exec_strIcEnable_next h
    rfl
  · obtain ⟨-, -, ⟨-, rfl⟩ | ⟨-, -, rfl⟩⟩ := exec_strIcDataCmd_next h
    · exact ⟨rfl, List.prefix_rfl⟩
    · exact ⟨rfl, List.prefix_append _ _⟩
  · obtain ⟨-, -, -, -, -, -, -, htrace, -⟩ := exec_access_frame hi h
    exact State.panel_congr htrace

end Sys2Proof.Machine
end

section
/-! PROOF. CTRL's steps (R110 to R115) as the moves they make, and the order of the bytes from push to bus (R117). -/

namespace Sys2Proof.Machine

/-- A step CTRL takes is CTRL's step under the free choice drawn. -/
theorem step_of_ctrl {s : State} (h : s.stepper = some .ctrl) :
    step s = .next (ctrlStep s.choice.answer s.choice.nack s.draw) := by
  obtain ⟨-, -, -, -, hrun⟩ := (ctrlEnabled_iff s).1 (ctrlEnabled_of_stepper h)
  rw [step_running hrun, h]

/-- Settles O41: R112's conditions. -/
theorem ctrlHasAStepExactlyWhen : Obligations.CtrlHasAStepExactlyWhen := ctrlEnabled_iff

/-- Settles O42: CTRL's step on STALL is no move at all. -/
theorem stallLeavesTheStateUnchanged : Obligations.StallLeavesTheStateUnchanged := by
  intro s hs hans
  rw [step_of_ctrl hs, hans, ctrlStep_stall]

/-! The move of each step: on ACK a bus move, on NACK a bus move followed by the chosen outcome. -/

theorem ctrlStart_ack (o : NackChoice) (s : State) : ctrlStart .ack o s =
    s.busMove [.start, .addr s.tarAddr false .ack] (clearHeadRestart s.fifo) .active := rfl

theorem ctrlStart_nack (o : NackChoice) (s : State) : ctrlStart .nack o s =
    nackOutcome o (s.busMove [.start, .addr s.tarAddr false .nack] s.fifo .active) := rfl

theorem ctrlRestart_ack (o : NackChoice) (s : State) : ctrlRestart .ack o s =
    s.busMove [.restart, .addr s.tarAddr false .ack] (clearHeadRestart s.fifo) s.bus := rfl

theorem ctrlRestart_nack (o : NackChoice) (s : State) : ctrlRestart .nack o s =
    nackOutcome o (s.busMove [.restart, .addr s.tarAddr false .nack] s.fifo s.bus) := rfl

theorem ctrlData_ack (e : Entry) (o : NackChoice) (s : State) : ctrlData e .ack o s =
    s.busMove (if e.stop then [.data e.dat .ack, .stop] else [.data e.dat .ack]) s.fifo.tail
      (if e.stop then .idle else s.bus) := by
  unfold ctrlData
  cases e.stop <;> rfl

theorem ctrlData_nack (e : Entry) (o : NackChoice) (s : State) : ctrlData e .nack o s =
    nackOutcome o (s.busMove [.data e.dat .nack] s.fifo.tail s.bus) := rfl

/-! A move by the fields it writes, from the state whose free choice has been drawn. -/

theorem draw_busMove (s : State) (evs : List BusEvent) (q : List Entry) (b : Bus) :
    s.draw.busMove evs q b = { s.draw with trace := s.trace ++ evs, fifo := q, bus := b } := by
  simp [State.busMove, State.emit, State.setFifo, State.setBus]

/-- ABORT ends the transaction with STOP and flushes the FIFO (R114). -/
theorem nackOutcome_abort_draw_busMove (s : State) (evs : List BusEvent) (q : List Entry) (b : Bus) :
    nackOutcome .abort (s.draw.busMove evs q b) =
      { s.draw with trace := s.trace ++ (evs ++ [.stop]), fifo := [], bus := .idle, txAbort := true } := by
  rw [draw_busMove, ← List.append_assoc]
  rfl

/-- HOLD leaves the transaction open (R114). -/
theorem nackOutcome_hold_draw_busMove (s : State) (evs : List BusEvent) (q : List Entry) (b : Bus) :
    nackOutcome .hold (s.draw.busMove evs q b) =
      { s.draw with trace := s.trace ++ evs, fifo := q, bus := b, held := true } := by
  rw [draw_busMove]
  rfl

/-- Settles O39: with the bus idle CTRL's step is C_START. -/
theorem ctrlStartOpensATransaction : Obligations.CtrlStartOpensATransaction := by
  intro s e rest hs hb hf
  have hbus : s.draw.bus = .idle := (State.draw_bus s).trans hb
  have hstep : step s = .next (ctrlStart s.choice.answer s.choice.nack s.draw) := by
    rw [step_of_ctrl hs, ctrlStep_idle _ _ hbus]
  refine ⟨fun hans => ?_, fun hans => ?_, fun hans hnack => ?_, fun hans hnack => ?_⟩
  · exact stallLeavesTheStateUnchanged s hs hans
  · rw [hstep, hans, ctrlStart_ack, draw_busMove]
    simp [hf, clearHeadRestart, State.tarAddr]
  · rw [hstep, hans, hnack, ctrlStart_nack, nackOutcome_abort_draw_busMove]
    simp [hb, State.tarAddr]
  · rw [hstep, hans, hnack, ctrlStart_nack, nackOutcome_hold_draw_busMove]
    simp [State.tarAddr]

/-- Settles O40: inside a transaction CTRL's step is the repeated START or the byte, as the head's RESTART flag says. -/
theorem ctrlByteSendsTheHead : Obligations.CtrlByteSendsTheHead := by
  intro s e rest hs hb hf
  have hbus : s.draw.bus = .active := (State.draw_bus s).trans hb
  have hfifo : s.draw.fifo = e :: rest := (State.draw_fifo s).trans hf
  have hrestart : e.restart = true → step s = .next (ctrlRestart s.choice.answer s.choice.nack s.draw) := fun hr => by
    rw [step_of_ctrl hs, ctrlStep_active _ _ hbus hfifo, if_pos hr]
  have hdata : e.restart = false → step s = .next (ctrlData e s.choice.answer s.choice.nack s.draw) := fun hr => by
    rw [step_of_ctrl hs, ctrlStep_active _ _ hbus hfifo, hr, if_neg Bool.false_ne_true]
  refine ⟨fun hans => ?_, fun hr hans => ?_, fun hr hans hnack => ?_, fun hr hans hnack => ?_, fun hr hans => ?_,
    fun hr hans hnack => ?_, fun hr hans hnack => ?_⟩
  · exact stallLeavesTheStateUnchanged s hs hans
  · rw [hrestart hr, hans, ctrlRestart_ack, draw_busMove]
    simp [hf, clearHeadRestart, State.tarAddr]
  · rw [hrestart hr, hans, hnack, ctrlRestart_nack, nackOutcome_abort_draw_busMove]
    simp [State.tarAddr]
  · rw [hrestart hr, hans, hnack, ctrlRestart_nack, nackOutcome_hold_draw_busMove]
    simp [State.tarAddr]
  · rw [hdata hr, hans, ctrlData_ack, draw_busMove]
    simp [hf, hb]
  · rw [hdata hr, hans, hnack, ctrlData_nack, nackOutcome_abort_draw_busMove]
    rfl
  · rw [hdata hr, hans, hnack, ctrlData_nack, nackOutcome_hold_draw_busMove]
    simp [hf]

/-! The bytes from push to bus (R117). -/

/-- The bytes on the bus followed by the bytes waiting in the FIFO. -/
def State.byteStream (s : State) : List Byte := dataBytes s.trace ++ fifoBytes s.fifo

theorem State.byteStream_congr {s t : State} (htrace : t.trace = s.trace) (hfifo : t.fifo = s.fifo) :
    t.byteStream = s.byteStream := by
  rw [State.byteStream, htrace, hfifo, State.byteStream]

@[simp] theorem State.draw_byteStream (s : State) : s.draw.byteStream = s.byteStream :=
  State.byteStream_congr (by simp) (by simp)

/-- A push appends the byte of its entry. -/
theorem byteStream_pushEntry (s : State) (e : Entry) : (s.pushEntry e).byteStream = s.byteStream ++ [e.dat] := by
  simp [State.byteStream, fifoBytes]

/-- A bus move keeps the stream when it emits exactly the bytes it takes from the FIFO. -/
theorem byteStream_busMove {s : State} {evs : List BusEvent} {q : List Entry} (b : Bus)
    (h : dataBytes evs ++ fifoBytes q = fifoBytes s.fifo) : (s.busMove evs q b).byteStream = s.byteStream := by
  have happend : dataBytes (s.trace ++ evs) = dataBytes s.trace ++ dataBytes evs := List.filterMap_append
  calc dataBytes (s.trace ++ evs) ++ fifoBytes q
      = dataBytes s.trace ++ (dataBytes evs ++ fifoBytes q) := by rw [happend, List.append_assoc]
    _ = dataBytes s.trace ++ fifoBytes s.fifo := by rw [h]

theorem fifoBytes_clearHeadRestart (q : List Entry) : fifoBytes (clearHeadRestart q) = fifoBytes q := by
  cases q <;> rfl

/-- An acknowledged step of CTRL moves at most the head's byte, from the FIFO to the bus. -/
theorem byteStream_ctrlStep_ack {s : State} (he : s.ctrlEnabled = true) (o : NackChoice) :
    (ctrlStep .ack o s).byteStream = s.byteStream := by
  obtain ⟨e, rest, hf, ⟨-, heq⟩ | ⟨-, -, heq⟩ | ⟨-, -, heq⟩⟩ := ctrlStep_cases he .ack o
  · rw [heq, ctrlStart_ack]
    exact byteStream_busMove .active (fifoBytes_clearHeadRestart s.fifo)
  · rw [heq, ctrlRestart_ack]
    exact byteStream_busMove s.bus (fifoBytes_clearHeadRestart s.fifo)
  · rw [heq, ctrlData_ack]
    refine byteStream_busMove _ ?_
    rw [hf]
    cases e.stop <;> rfl

/-- CTRL's step keeps the byte stream on every answer but NACK. -/
theorem byteStream_ctrlStep {s : State} (he : s.ctrlEnabled = true) {r : Answer} (hr : r ≠ .nack) (o : NackChoice) :
    (ctrlStep r o s).byteStream = s.byteStream := by
  cases r with
  | ack => exact byteStream_ctrlStep_ack he o
  | nack => exact absurd rfl hr
  | stall => rw [ctrlStep_stall]

/-- A move of the thread appends the byte of its push, if it pushes. -/
theorem ThreadMove.byteStream {s t : State} (move : ThreadMove s t) :
    ∃ pushed : List Byte, pushed.length ≤ 1 ∧ t.byteStream = s.byteStream ++ pushed := by
  cases move with
  | push e _ _ _ _ same =>
    exact ⟨[e.dat], le_rfl, (State.byteStream_congr same.trace same.fifo).trans (byteStream_pushEntry s e)⟩
  | keep same | con _ _ _ same | tar _ _ _ same | enable _ _ _ same =>
    exact ⟨[], Nat.zero_le 1, (State.byteStream_congr same.trace same.fifo).trans (List.append_nil _).symm⟩

/-- Settles O43: CTRL's step keeps the byte stream, a move of the thread appends at most one byte to it. -/
theorem busDataOrderIsPushOrder : Obligations.BusDataOrderIsPushOrder := by
  intro s t hstep hans
  obtain ⟨-, he, rfl⟩ | ⟨hs, move⟩ := step_controller hstep
  · have hkeep := byteStream_ctrlStep ((State.draw_ctrlEnabled s).trans he) hans s.choice.nack
    exact ⟨[], Nat.zero_le 1, fun _ => rfl,
      (hkeep.trans (State.draw_byteStream s)).trans (List.append_nil _).symm⟩
  · obtain ⟨pushed, hlen, hstream⟩ := move.byteStream
    exact ⟨pushed, hlen, fun hc => absurd hc hs, by rwa [State.draw_byteStream] at hstream⟩

end Sys2Proof.Machine
end

section
/-! PROOF. How the operations of the transaction engine are taken (R140, R141), and SEQ's step at each kind of point of a
transfer (R141, R148). -/

namespace Sys2Proof.Machine

theorem speedAdmitted_iff_mem (spd : BitVec 2) : speedAdmitted spd = true ↔ spd ∈ [1#2, 2#2] := by
  simp [speedAdmitted]

/-- Settles O22: the two checks of R140 in order, then the first configuration write. -/
theorem initializeIsTakenAfterItsChecks : Obligations.InitializeIsTakenAfterItsChecks := by
  intro spd a7 s
  simp only [← speedAdmitted_iff_mem]
  refine ⟨fun hspd => if_neg hspd, fun hspd hphase => ?_, fun hspd hphase => ?_⟩
  · exact (if_pos hspd).trans (if_pos hphase)
  · exact (if_pos hspd).trans (if_neg (by simp [hphase]))

theorem enterTransfer_of_none {op : Instr} {j : Nat} {s : State} (h : (transfers s.params op)[j]? = none) :
    enterTransfer op j s = complete op s := by
  simp [enterTransfer, transferStart, h]

theorem enterTransfer_of_nil {op : Instr} {j : Nat} {s : State} (h : (transfers s.params op)[j]? = some []) :
    enterTransfer op j s = s.setPos (.at op (.pollIdle j)) := by
  simp [enterTransfer, transferStart, h]

theorem enterTransfer_of_cons {op : Instr} {j : Nat} {s : State} {b : Byte} {bytes : List Byte}
    (h : (transfers s.params op)[j]? = some (b :: bytes)) :
    enterTransfer op j s = s.setPos (.at op (.pollTfnf j 0)) := by
  simp [enterTransfer, transferStart, h]

theorem startTransfers_of_ready {op : Instr} {s : State} (h : s.phase = .ready) :
    startTransfers op s = .next (enterTransfer op 0 s) :=
  if_neg (by simp [h])

/-- In phase READY an operation made of WRITE_BUFFERs is taken (R141, R161, R162, R163, R167). -/
theorem exec_transfers_of_ready {op : Instr} {s : State} (hphase : s.phase = .ready) (ho : op.isAccess = false)
    (hi : ∀ spd a7, op ≠ .initializeOp spd a7) (hfb : ∀ f, op = .sendFramebuffer f → f.length = 1024) :
    exec op s = .next (enterTransfer op 0 s) := by
  cases op with
  | initializeOp spd a7 => exact absurd rfl (hi spd a7)
  | sendFramebuffer f => exact (if_pos (hfb f rfl)).trans (startTransfers_of_ready hphase)
  | writeBuffer | sendCommand | sendCommandList | initSequence => exact startTransfers_of_ready hphase
  | _ => cases ho

/-- Settles O24: the phase check, then the first point of the one transfer. -/
theorem writeBufferIsTakenWhenReady : Obligations.WriteBufferIsTakenWhenReady := by
  intro s b bytes
  refine ⟨fun hphase => ?_, fun hphase => ?_, fun hphase => ?_⟩
  · exact if_pos ⟨by simp [transfers], hphase⟩
  · exact (startTransfers_of_ready hphase).trans (congrArg _ (enterTransfer_of_nil rfl))
  · exact (startTransfers_of_ready hphase).trans (congrArg _ (enterTransfer_of_cons rfl))

/-! The access at a point of a transfer. -/

theorem accessAt_pollTfnf_eq {p : Params} {op : Instr} {j i : Nat} (h : accessAt p op (.pollTfnf j i) ≠ none) :
    accessAt p op (.pollTfnf j i) = some .ldrIcStatus := by
  simp only [accessAt] at h ⊢
  split at h <;> simp_all

theorem accessAt_push_eq {p : Params} {op : Instr} {j i : Nat} {bytes : List Byte} {b : Byte}
    (hts : (transfers p op)[j]? = some bytes) (hb : bytes[i]? = some b) :
    accessAt p op (.push j i) = some (.strIcDataCmd (dataCmdWord b (decide (i + 1 = bytes.length)) false)) := by
  simp [accessAt, hts, pushAccess, hb]

/-- The data word of a byte without RESTART: bit 9 is STOP (R72). -/
theorem dataCmdWord_noRestart (b : Byte) (stop : Bool) :
    dataCmdWord b stop false = if stop then b.setWidth 32 ||| 0x200#32 else b.setWidth 32 := by
  cases stop <;> simp [dataCmdWord]

/-- Settles O28: the push's word is the byte's, with STOP when its index is the last one. -/
theorem pushCarriesStopOnTheLastByteOnly : Obligations.PushCarriesStopOnTheLastByteOnly := by
  intro p op j i bytes b hts hb
  rw [accessAt_push_eq hts hb, dataCmdWord_noRestart]
  simp

/-- No bit of a data word without RESTART is refused (R104). -/
theorem dataCmdRefusal_dataCmdWord (b : Byte) (stop : Bool) (s : State) :
    dataCmdRefusal (dataCmdWord b stop false) s = none := by
  have hbits : ∀ (b : Byte) (stop : Bool), dataCmdCmd (dataCmdWord b stop false) = false ∧
      dataCmdMbz (dataCmdWord b stop false) = 0 ∧ dataCmdRestart (dataCmdWord b stop false) = false := by decide
  obtain ⟨hcmd, hmbz, hrestart⟩ := hbits b stop
  exact dataCmdRefusal_eq_none hcmd hmbz (by simp [hrestart])

theorem entryOfWord_dataCmdWord (b : Byte) (stop : Bool) :
    entryOfWord (dataCmdWord b stop false) = { dat := b, stop := stop, restart := false } := by
  revert b stop; decide

/-- A push with room, or discarded after an abort (R104, R141). -/
theorem exec_push {b : Byte} {stop : Bool} {s : State} (hen : s.enabled = true)
    (hroom : s.txAbort = false → s.fifo.length ≠ s.params.txFifoDepth) :
    exec (.strIcDataCmd (dataCmdWord b stop false)) s =
      .next (if s.txAbort then s else s.pushEntry { dat := b, stop := stop, restart := false }) := by
  rw [exec_strIcDataCmd_of_passed (dataCmdRefusal_dataCmdWord b stop s) (dataCmdFault_eq_none hen hroom),
    entryOfWord_dataCmdWord]

/-! SEQ's step at each point. -/

/-- SEQ's step at a point whose access answers a next state. -/
theorem step_of_access {s u : State} {op i : Instr} {k : Point} (hs : s.stepper = some .thread) (hpos : s.pos = .at op k)
    (hi : accessAt s.params op k = some i) (hexec : exec i s.draw = .next u) : step s = .next (advance op k u) := by
  rw [stepRunsTheAccessOfThePoint s op i k hs hpos hi, hexec]
  rfl

theorem step_pollTfnf {s : State} {op : Instr} {j i : Nat} (hs : s.stepper = some .thread)
    (hpos : s.pos = .at op (.pollTfnf j i)) (hk : accessAt s.params op (.pollTfnf j i) ≠ none) :
    step s = .next (if s.tfnf then (s.draw.setRdata s.icStatus).setPos (.at op (.push j i))
      else s.draw.setRdata s.icStatus) := by
  rw [step_of_access hs hpos (accessAt_pollTfnf_eq hk) (exec_ldrIcStatus _)]
  simp [advance]

theorem advance_push {op : Instr} {j i : Nat} {s : State} {bytes : List Byte}
    (hts : (transfers s.params op)[j]? = some bytes) : advance op (.push j i) s =
      s.setPos (.at op (if i + 1 < bytes.length then .pollTfnf j (i + 1) else .pollIdle j)) := by
  by_cases hlast : i + 1 < bytes.length <;> simp [advance, hts, hlast]

/-- The point after a push is a poll (R141). -/
theorem point_after_push_is_poll (goesOn : Prop) [Decidable goesOn] (j i : Nat) :
    (∀ n, (if goesOn then Point.pollTfnf j i else .pollIdle j) ≠ .cfg n) ∧
    ∀ j' n, (if goesOn then Point.pollTfnf j i else .pollIdle j) ≠ .push j' n := by
  by_cases h : goesOn <;> simp [h]

theorem step_push {s : State} {op : Instr} {j i : Nat} {bytes : List Byte} {b : Byte} (hs : s.stepper = some .thread)
    (hpos : s.pos = .at op (.push j i)) (hts : (transfers s.params op)[j]? = some bytes) (hb : bytes[i]? = some b)
    (hen : s.enabled = true) (hroom : s.txAbort = false → s.fifo.length ≠ s.params.txFifoDepth) :
    step s = .next ((if s.txAbort then s.draw
        else s.draw.pushEntry { dat := b, stop := decide (i + 1 = bytes.length), restart := false }).setPos
      (.at op (if i + 1 < bytes.length then .pollTfnf j (i + 1) else .pollIdle j))) := by
  have hexec := exec_push (s := s.draw) (b := b) (stop := decide (i + 1 = bytes.length)) (by simpa using hen)
    (by simpa using hroom)
  rw [State.draw_txAbort] at hexec
  rw [step_of_access hs hpos (accessAt_push_eq hts hb) hexec, advance_push (bytes := bytes)]
  cases s.txAbort <;> simpa using hts

theorem step_pollIdle {s : State} {op : Instr} {j : Nat} (hs : s.stepper = some .thread)
    (hpos : s.pos = .at op (.pollIdle j)) (hk : accessAt s.params op (.pollIdle j) ≠ none) :
    step s = .next (if s.activity then s.draw.setRdata s.icStatus
      else enterTransfer op (j + 1) (s.draw.setRdata s.icStatus)) := by
  obtain ⟨i, hi⟩ := Option.ne_none_iff_exists'.1 hk
  obtain rfl := accessAt_pollIdle_eq hi
  rw [step_of_access hs hpos hi (exec_ldrIcStatus _)]
  simp [advance]

/-- What completing an operation without configuration writes does: SEQ is IDLE, and INIT_SEQUENCE sets `init_done`
(R23, R163). -/
theorem complete_transfers_eq {op : Instr} (hi : ∀ spd a7, op ≠ .initializeOp spd a7) (s : State) :
    complete op s = (s.setInitDone (s.initDone || decide (op = .initSequence))).setPos .idle := by
  cases op with
  | initializeOp spd a7 => exact absurd rfl (hi spd a7)
  | initSequence => simp [complete]
  | _ => simp [complete, State.setInitDone]

/-- Settles O31: each poll is one status read, whose bit decides where SEQ goes. -/
theorem pollsRepeatUntilTheirConditionHolds : Obligations.PollsRepeatUntilTheirConditionHolds := by
  intro s op j i hs
  refine ⟨fun hpos hk => ?_, fun hpos hk => ⟨fun hactive => ?_, fun hquiet => ⟨fun b bytes hts => ?_, fun hts => ?_,
    fun hts => ?_⟩⟩⟩
  · rw [step_pollTfnf hs hpos hk]
    by_cases hroom : s.fifo.length < s.params.txFifoDepth <;>
      simp [State.tfnf, hroom, State.setRdata, State.setPos, hpos]
  all_goals rw [step_pollIdle hs hpos hk]
  · rw [if_pos hactive]; rfl
  all_goals rw [hquiet, if_neg Bool.false_ne_true]
  · rw [enterTransfer_of_cons (by simpa using hts)]; rfl
  · rw [enterTransfer_of_nil (by simpa using hts)]; rfl
  · have hi : ∀ spd a7, op ≠ .initializeOp spd a7 := by
      rintro spd a7 rfl
      simp [accessAt, transfers_initializeOp] at hk
    rw [enterTransfer_of_none (by simpa using hts), complete_transfers_eq hi, State.setRdata_initDone, State.draw_initDone]
    rfl

/-- ACTIVITY 0 with the controller enabled and the FIFO empty after an abort: nothing is in progress (R29, R143). -/
theorem idle_of_activity_eq_false {s : State} (hen : s.enabled = true) (habort : s.txAbort = true → s.fifo = [])
    (h : s.activity = false) : s.bus = .idle ∧ s.held = false ∧ s.fifo = [] := by
  have hnot := mt (activity_iff s).2 (ne_true_of_eq_false h)
  push Not at hnot
  obtain ⟨hbus, hheld, hfifo⟩ := hnot
  refine ⟨by cases hb : s.bus <;> simp_all, by simpa using hheld, ?_⟩
  cases hab : s.txAbort with
  | true => exact habort hab
  | false => exact hfifo hen hab

/-- At a value of the type of positions that is no point of the operation SEQ stays (log 21). -/
theorem step_of_noAccess {s : State} {op : Instr} {k : Point} (hs : s.stepper = some .thread) (hpos : s.pos = .at op k)
    (hk : accessAt s.params op k = none) : step s = .next s.draw := by
  rw [step_of_thread hs]
  simp [threadStep, hpos, seqStep, hk, recordMark]

/-- Every step with SEQ at a poll for idle: CTRL's own, one that leaves SEQ there, or one that found ACTIVITY 0 (R141). -/
theorem step_at_pollIdle {s t : State} {op : Instr} {j : Nat} (hpos : s.pos = .at op (.pollIdle j))
    (hstep : step s = .next t) :
    (s.ctrlEnabled = true ∧ t = ctrlStep s.choice.answer s.choice.nack s.draw) ∨ t = s.draw ∨
      t = s.draw.setRdata s.icStatus ∨
      (s.activity = false ∧ t = enterTransfer op (j + 1) (s.draw.setRdata s.icStatus)) := by
  obtain ⟨-, ⟨-, he, rfl⟩ | hthread⟩ := step_cases hstep
  · exact .inl ⟨he, rfl⟩
  have hs : s.stepper = some .thread ∨ t = s.draw := by
    obtain ⟨hs, -⟩ | ⟨hs, -⟩ | ⟨hs, -⟩ | ⟨-, rfl⟩ := hthread
    exacts [.inl hs, .inl hs, .inl hs, .inr rfl]
  obtain hs | rfl := hs
  · by_cases hk : accessAt s.params op (.pollIdle j) = none
    · rw [step_of_noAccess hs hpos hk] at hstep
      cases hstep
      exact .inr (.inl rfl)
    · rw [step_pollIdle hs hpos hk] at hstep
      cases hstep
      cases hact : s.activity with
      | true => exact .inr (.inr (.inl rfl))
      | false => exact .inr (.inr (.inr ⟨rfl, rfl⟩))
  · exact .inr (.inl rfl)

/-- Settles O35: the step that leaves the poll read ACTIVITY 0 and leaves the controller alone. -/
theorem returnImpliesIdle : Obligations.ReturnImpliesIdle := by
  intro s t op j hinv _ hen hpos hstep hne
  obtain ⟨-, rfl⟩ | rfl | rfl | ⟨hquiet, rfl⟩ := step_at_pollIdle hpos hstep
  case inr.inr.inr =>
    simpa using idle_of_activity_eq_false hen (fun hab => (hinv.abortQuiet hab).1) hquiet
  all_goals simp at hne

/-- Settles O36: a hold disables CTRL and keeps ACTIVITY 1, so SEQ reads the poll for idle again. -/
theorem heldControllerBlocksForEver : Obligations.HeldControllerBlocksForEver := by
  intro s t op j hheld hpos hstep
  obtain ⟨hrun, -⟩ := step_cases hstep
  obtain ⟨he, rfl⟩ | rfl | rfl | ⟨hquiet, rfl⟩ := step_at_pollIdle hpos hstep
  · obtain ⟨-, -, hfree, -⟩ := (ctrlEnabled_iff s).1 he
    cases hheld.symm.trans hfree
  · simpa [State.running, hheld] using hrun
  · simpa [State.running, hheld] using hrun
  · cases hquiet.symm.trans ((activity_iff s).2 (.inr (.inl hheld)))

end Sys2Proof.Machine
end

section
/-! PROOF. One operation under way (R141, R142): what SEQ has pushed and what CTRL has sent of the transfer in progress, and
how many steps of progress are due until the operation completes. -/

namespace Sys2Proof.Machine

/-- The fields that no step of an operation under way touches when no answer is NACK. -/
structure OperationFrame (s t : State) : Prop where
  params : t.params = s.params
  phase : t.phase = s.phase
  initDone : t.initDone = s.initDone
  icCon : t.icCon = s.icCon
  icTar : t.icTar = s.icTar
  icEnable : t.icEnable = s.icEnable
  txAbort : t.txAbort = s.txAbort
  held : t.held = s.held
  fault : t.fault = s.fault
  refused : t.refused = s.refused
  program : t.program = s.program

theorem OperationFrame.refl (s : State) : OperationFrame s s := by constructor <;> rfl

theorem OperationFrame.trans {s t u : State} (h : OperationFrame s t) (k : OperationFrame t u) : OperationFrame s u where
  params := k.params.trans h.params
  phase := k.phase.trans h.phase
  initDone := k.initDone.trans h.initDone
  icCon := k.icCon.trans h.icCon
  icTar := k.icTar.trans h.icTar
  icEnable := k.icEnable.trans h.icEnable
  txAbort := k.txAbort.trans h.txAbort
  held := k.held.trans h.held
  fault := k.fault.trans h.fault
  refused := k.refused.trans h.refused
  program := k.program.trans h.program

theorem operationFrame_draw (s : State) : OperationFrame s s.draw := by constructor <;> simp

theorem operationFrame_setRdata (s : State) (v : Word) : OperationFrame s (s.setRdata v) := by constructor <;> rfl

theorem operationFrame_setPos (s : State) (p : Pos) : OperationFrame s (s.setPos p) := by constructor <;> rfl

theorem operationFrame_pushEntry (s : State) (e : Entry) : OperationFrame s (s.pushEntry e) := by constructor <;> rfl

/-- CTRL touches a mark of a NACK on a NACK only (R114). -/
theorem operationFrame_ctrlStep {s : State} (he : s.ctrlEnabled = true) {r : Answer} (hr : r ≠ .nack) (o : NackChoice) :
    OperationFrame s (ctrlStep r o s) := by
  have move := ctrlStep_move he r o
  constructor <;> simp [move.txAbort, move.held, hr]

theorem OperationFrame.quiet_enabled {s u : State} (frame : OperationFrame s u) (hq : s.Quiet) : u.enabled = true :=
  (State.enabled_congr frame.icEnable).trans hq.enabled

theorem OperationFrame.quiet_running {s u : State} (frame : OperationFrame s u) (hq : s.Quiet) :
    u.fault = none ∧ u.refused = none :=
  ⟨frame.fault.trans hq.running.1, frame.refused.trans hq.running.2⟩

/-- During an operation CTRL has a step exactly while an entry waits (R112). -/
theorem OperationFrame.ctrlEnabled_iff {s u : State} (frame : OperationFrame s u) (hq : s.Quiet) :
    u.ctrlEnabled = true ↔ u.fifo ≠ [] := by
  rw [Machine.ctrlEnabled_iff]
  simp [frame.quiet_enabled hq, frame.quiet_running hq, frame.held.trans hq.held, frame.txAbort.trans hq.txAbort]

/-- During an operation ACTIVITY is 0 exactly when the bus is idle and no entry waits (R29). -/
theorem OperationFrame.activity_eq_false_iff {s u : State} (frame : OperationFrame s u) (hq : s.Quiet) :
    u.activity = false ↔ u.bus = .idle ∧ u.fifo = [] := by
  rw [← Bool.not_eq_true, activity_iff]
  cases hb : u.bus <;>
    simp [frame.quiet_enabled hq, frame.held.trans hq.held, frame.txAbort.trans hq.txAbort]

/-! The FIFO during a transfer. -/

/-- The entry that the push of byte `i` of a transfer leaves (R141, R246). -/
def transferEntry (bytes : List Byte) (i : Nat) (b : Byte) : Entry :=
  { dat := b, stop := decide (i + 1 = bytes.length), restart := false }

/-- The entries that the pushes of a transfer leave, in order. -/
def transferEntries (bytes : List Byte) : List Entry := bytes.mapIdx (transferEntry bytes)

/-- The entries waiting when the first `pushed` bytes have been pushed and the first `sent` of them sent. -/
def waitingEntries (bytes : List Byte) (pushed sent : Nat) : List Entry :=
  ((transferEntries bytes).take pushed).drop sent

@[simp] theorem transferEntries_length (bytes : List Byte) : (transferEntries bytes).length = bytes.length :=
  List.length_mapIdx

theorem waitingEntries_length {bytes : List Byte} {pushed sent : Nat} (h : pushed ≤ bytes.length) :
    (waitingEntries bytes pushed sent).length = pushed - sent := by
  simp [waitingEntries, h]

/-- A push appends the entry of its byte. -/
theorem waitingEntries_push {bytes : List Byte} {pushed sent : Nat} {b : Byte} (hb : bytes[pushed]? = some b)
    (horder : sent ≤ pushed) :
    waitingEntries bytes pushed sent ++ [transferEntry bytes pushed b] = waitingEntries bytes (pushed + 1) sent := by
  have hlt := (List.getElem?_eq_some_iff.1 hb).1
  have hentry : (transferEntries bytes)[pushed]? = some (transferEntry bytes pushed b) := by
    simp [transferEntries, hb]
  rw [waitingEntries, waitingEntries, List.take_add_one, hentry,
    List.drop_append_of_le_length (by simp; omega)]
  rfl

/-- The head waiting is the entry of the first byte that has not been sent. -/
theorem waitingEntries_cons {bytes : List Byte} {pushed sent : Nat} {e : Entry} {rest : List Entry}
    (h : waitingEntries bytes pushed sent = e :: rest) :
    ∃ b, bytes[sent]? = some b ∧ e = transferEntry bytes sent b ∧ sent < pushed ∧
      rest = waitingEntries bytes pushed (sent + 1) := by
  have hhead : ((transferEntries bytes).take pushed)[sent]? = some e := by
    rw [← List.head?_drop, ← waitingEntries, h, List.head?_cons]
  have hlt : sent < pushed := by
    have := (List.getElem?_eq_some_iff.1 hhead).1
    simp at this
    omega
  rw [List.getElem?_take_of_lt hlt, transferEntries, List.getElem?_mapIdx, Option.map_eq_some_iff] at hhead
  obtain ⟨b, hb, he⟩ := hhead
  refine ⟨b, hb, he.symm, hlt, ?_⟩
  rw [waitingEntries, ← List.tail_drop, ← waitingEntries, h, List.tail_cons]

/-! CTRL's side of a transfer. -/

/-- The events of a transaction once its address is acknowledged, before its STOP. -/
def openEvents (a : BitVec 7) (bytes : List Byte) : List BusEvent :=
  [.start, .addr a false .ack] ++ bytes.map (fun b => .data b .ack)

/-- How far CTRL is with a transfer: the bytes sent, the acknowledged steps still due, the bus state, and the events of
the transfer so far. An empty transfer is sent from the beginning. -/
inductive Wire (a : BitVec 7) (bytes : List Byte) : Nat → Nat → Bus → List BusEvent → Prop
  | waiting (nonempty : bytes ≠ []) : Wire a bytes 0 (bytes.length + 1) .idle []
  | sending (sent : Nat) (h : sent < bytes.length) :
      Wire a bytes sent (bytes.length - sent) .active (openEvents a (bytes.take sent))
  | sent : Wire a bytes bytes.length 0 .idle (transactionEvents a bytes)

/-- CTRL's side of a state during a transfer of which the first `pushed` bytes have been pushed, when `left` acknowledged
steps are due and the trace before the transfer was `before`. -/
structure OnWire (a : BitVec 7) (before : List BusEvent) (bytes : List Byte) (pushed left : Nat) (u : State) : Prop where
  progress : ∃ sent evs, sent ≤ pushed ∧ Wire a bytes sent left u.bus evs ∧
    u.fifo = waitingEntries bytes pushed sent ∧ u.trace = before ++ evs

theorem OnWire.congr {a : BitVec 7} {before : List BusEvent} {bytes : List Byte} {pushed left : Nat} {u v : State}
    (h : OnWire a before bytes pushed left u) (hbus : v.bus = u.bus) (hfifo : v.fifo = u.fifo)
    (htrace : v.trace = u.trace) : OnWire a before bytes pushed left v :=
  ⟨by rw [hbus, hfifo, htrace]; exact h.progress⟩

/-- The steps CTRL spends on a transfer: its START and its bytes; none for an empty one. -/
def wireSteps (bytes : List Byte) : Nat := if bytes = [] then 0 else bytes.length + 1

/-- With the bus idle and nothing waiting, CTRL's side is at the beginning of a transfer. -/
theorem OnWire.ofIdle (a : BitVec 7) (bytes : List Byte) {u : State} (hbus : u.bus = .idle) (hfifo : u.fifo = []) :
    OnWire a u.trace bytes 0 (wireSteps bytes) u := by
  have hwire : Wire a bytes 0 (wireSteps bytes) .idle [] := by
    unfold wireSteps
    split_ifs with h
    · subst h; exact .sent
    · exact .waiting h
  exact ⟨0, [], le_rfl, hbus ▸ hwire, by simp [hfifo, waitingEntries], by simp⟩

theorem OnWire.push {a : BitVec 7} {before : List BusEvent} {bytes : List Byte} {pushed left : Nat} {u : State} {b : Byte}
    (h : OnWire a before bytes pushed left u) (hb : bytes[pushed]? = some b) :
    OnWire a before bytes (pushed + 1) left (u.pushEntry (transferEntry bytes pushed b)) := by
  obtain ⟨sent, evs, horder, hwire, hfifo, htrace⟩ := h.progress
  refine ⟨sent, evs, by omega, hwire, ?_, htrace⟩
  rw [State.pushEntry_fifo, hfifo, waitingEntries_push hb horder]

/-- While the transaction of a transfer that is pushed whole is open, an entry waits. -/
theorem OnWire.fifo_ne_nil_of_active {a : BitVec 7} {before : List BusEvent} {bytes : List Byte} {left : Nat} {u : State}
    (h : OnWire a before bytes bytes.length left u) (hbus : u.bus = .active) : u.fifo ≠ [] := by
  obtain ⟨sent, evs, -, hwire, hfifo, -⟩ := h.progress
  rw [hbus] at hwire
  cases hwire with
  | sending _ hlt =>
    rw [hfifo, ← List.length_pos_iff, waitingEntries_length le_rfl]
    omega

/-- With every byte pushed, nothing waiting and the bus idle, the transfer's transaction is on the trace (R142). -/
theorem OnWire.finished {a : BitVec 7} {before : List BusEvent} {bytes : List Byte} {left : Nat} {u : State}
    (h : OnWire a before bytes bytes.length left u) (hbus : u.bus = .idle) (hfifo : u.fifo = []) :
    left = 0 ∧ u.trace = before ++ transactionEvents a bytes := by
  obtain ⟨sent, evs, -, hwire, hwaiting, htrace⟩ := h.progress
  rw [hbus] at hwire
  cases hwire with
  | waiting nonempty =>
    have hlen := waitingEntries_length (sent := 0) (le_refl bytes.length)
    rw [← hwaiting, hfifo] at hlen
    exact absurd (List.length_eq_zero_iff.1 hlen.symm) nonempty
  | sent => exact ⟨rfl, htrace⟩

/-- While the START is due the trace is as before the transfer. -/
theorem OnWire.trace_of_waiting {a : BitVec 7} {before : List BusEvent} {bytes : List Byte} {pushed : Nat} {u : State}
    (h : OnWire a before bytes pushed (bytes.length + 1) u) : u.trace = before := by
  obtain ⟨sent, evs, -, hwire, -, htrace⟩ := h.progress
  generalize hleft : bytes.length + 1 = left, u.bus = bus at hwire
  cases hwire with
  | waiting => simpa using htrace
  | sending sent _ => omega
  | sent => omega

theorem openEvents_snoc (a : BitVec 7) (bytes : List Byte) (b : Byte) :
    openEvents a bytes ++ [.data b .ack] = openEvents a (bytes ++ [b]) := by
  simp [openEvents]

/-- STOP after the last byte makes the transaction (R142). -/
theorem openEvents_stop {a : BitVec 7} {bytes : List Byte} (h : bytes ≠ []) :
    openEvents a bytes ++ [.stop] = transactionEvents a bytes := by
  simp [openEvents, transactionEvents, h]

/-- CTRL's acknowledged byte `b`, which is byte number `sent` (R111). -/
theorem Wire.byte {a : BitVec 7} {bytes : List Byte} {sent : Nat} {b : Byte} (hb : bytes[sent]? = some b) :
    Wire a bytes (sent + 1) (bytes.length - sent - 1) (if sent + 1 = bytes.length then .idle else .active)
      (openEvents a (bytes.take sent) ++
        if sent + 1 = bytes.length then [.data b .ack, .stop] else [.data b .ack]) := by
  have hlt := (List.getElem?_eq_some_iff.1 hb).1
  have htake : bytes.take sent ++ [b] = bytes.take (sent + 1) := by simp [List.take_add_one, hb]
  split_ifs with hlast
  · rw [hlast, List.take_length] at htake
    have hevs : openEvents a (bytes.take sent) ++ [.data b .ack, .stop] = transactionEvents a bytes := calc
      _ = openEvents a (bytes.take sent) ++ [.data b .ack] ++ [.stop] := by rw [List.append_assoc]; rfl
      _ = openEvents a bytes ++ [.stop] := by rw [openEvents_snoc, htake]
      _ = transactionEvents a bytes := openEvents_stop (List.ne_nil_of_length_pos (by omega))
    rw [hevs, hlast, show bytes.length - sent - 1 = 0 by omega]
    exact .sent
  · rw [openEvents_snoc, htake, Nat.sub_sub]
    exact .sending (sent + 1) (by omega)

/-- A bus move that emits the next events of the transfer. -/
theorem OnWire.ofBusMove {a : BitVec 7} {before evs new : List BusEvent} {bytes : List Byte} {pushed sent left : Nat}
    {b : Bus} {u : State} (horder : sent ≤ pushed) (htrace : u.trace = before ++ evs)
    (hwire : Wire a bytes sent left b (evs ++ new)) :
    OnWire a before bytes pushed left (u.busMove new (waitingEntries bytes pushed sent) b) :=
  ⟨sent, evs ++ new, horder, hwire, rfl, by simp [State.busMove, htrace]⟩

/-- An acknowledged step of CTRL is one of the steps due (R110, R111). -/
theorem OnWire.ack {before : List BusEvent} {bytes : List Byte} {pushed left : Nat} {u : State}
    (h : OnWire u.tarAddr before bytes pushed left u) (he : u.ctrlEnabled = true) (o : NackChoice) :
    ∃ due, left = due + 1 ∧ OnWire u.tarAddr before bytes pushed due (ctrlStep .ack o u) := by
  obtain ⟨sent, evs, horder, hwire, hfifo, htrace⟩ := h.progress
  obtain ⟨e, rest, hcons, hcases⟩ := ctrlStep_cases he .ack o
  obtain ⟨b, hb, rfl, hlt, rfl⟩ := waitingEntries_cons (hfifo.symm.trans hcons)
  have hsent := (List.getElem?_eq_some_iff.1 hb).1
  obtain ⟨hbus, heq⟩ | ⟨-, hrestart, -⟩ | ⟨hbus, -, heq⟩ := hcases
  · rw [hbus] at hwire
    cases hwire with
    | waiting nonempty =>
      have hkeep : clearHeadRestart u.fifo = waitingEntries bytes pushed 0 := by
        rw [← hfifo, hcons]; rfl
      rw [heq, ctrlStart_ack, hkeep]
      exact ⟨bytes.length, rfl, .ofBusMove horder htrace (.sending 0 hsent)⟩
    | sent => omega
  · cases hrestart
  · rw [hbus] at hwire
    cases hwire with
    | sending _ _ =>
      rw [heq, ctrlData_ack, hcons, List.tail_cons, hbus]
      refine ⟨bytes.length - sent - 1, by omega, .ofBusMove hlt htrace ?_⟩
      simpa [transferEntry] using Wire.byte hb

end Sys2Proof.Machine
end

section
/-! PROOF. The steps of one operation under way (R142): each one is a step of progress, or waits for CTRL or for the slave;
the number of steps of progress is fixed by the transfers. -/

namespace Sys2Proof.Machine

/-- SEQ's place in transfer `j` of `len` bytes: the bytes pushed so far, SEQ's steps of progress still due, the point. -/
inductive PointOf (j len : Nat) : Nat → Nat → Point → Prop
  | pollTfnf (i : Nat) (h : i < len) : PointOf j len i (2 * (len - i) + 1) (.pollTfnf j i)
  | push (i : Nat) (h : i < len) : PointOf j len i (2 * (len - i)) (.push j i)
  | pollIdle : PointOf j len len 1 (.pollIdle j)

/-- The trace once the first `j` transfers of an operation that began in state `s` are on the bus. -/
def traceBefore (s : State) (op : Instr) (j : Nat) : List BusEvent :=
  s.trace ++ transactionsEvents s.tarAddr ((transfers s.params op).take j)

/-- SEQ stands at point `k` of transfer `j`, with the bytes `bytes`, of an operation that began in state `s`; the first
`pushed` bytes have been pushed, and `left` steps of CTRL are due. -/
structure SendingAt (s : State) (op : Instr) (j : Nat) (bytes : List Byte) (k : Point) (pushed left : Nat) (u : State) :
    Prop where
  frame : OperationFrame s u
  transfer : (transfers s.params op)[j]? = some bytes
  pos : u.pos = .at op k
  room : ∀ i, k = .push j i → u.tfnf = true
  wire : OnWire s.tarAddr (traceBefore s op j) bytes pushed left u

/-- Transfer `j` of an operation that began in state `s` is in progress in state `u`: `due` steps of SEQ and `left` of
CTRL are still to be made in it. -/
inductive Sending (s : State) (op : Instr) (j due left : Nat) (u : State) : Prop
  | intro (bytes : List Byte) (k : Point) (pushed : Nat) (place : SendingAt s op j bytes k pushed left u)
      (point : PointOf j bytes.length pushed due k)

/-- The first `j` transfers are on the bus and nothing of another one is under way. -/
structure BetweenTransfers (s : State) (op : Instr) (j : Nat) (u : State) : Prop where
  frame : OperationFrame s u
  fifo : u.fifo = []
  bus : u.bus = .idle
  trace : u.trace = traceBefore s op j

/-- The steps of progress of the transfers from number `j` on. -/
def laterSteps (s : State) (op : Instr) (j : Nat) : Nat := (((transfers s.params op).drop j).map eagerSteps).sum

/-- An operation that began in state `s` and needs this many more steps of progress to complete. -/
inductive OperationRun (s : State) (op : Instr) : Nat → State → Prop
  | completed (u : State) (h : BetweenTransfers s op (transfers s.params op).length u) :
      OperationRun s op 0 (complete op u)
  | sending {j due left : Nat} {u : State} (h : Sending s op j due left u) :
      OperationRun s op (due + left + laterSteps s op (j + 1)) u

theorem traceBefore_succ {s : State} {op : Instr} {j : Nat} {bytes : List Byte}
    (h : (transfers s.params op)[j]? = some bytes) :
    traceBefore s op j ++ transactionEvents s.tarAddr bytes = traceBefore s op (j + 1) := by
  simp [traceBefore, transactionsEvents, List.take_add_one, h]

theorem laterSteps_eq_of_transfer {s : State} {op : Instr} {j : Nat} {bytes : List Byte}
    (h : (transfers s.params op)[j]? = some bytes) :
    laterSteps s op j = eagerSteps bytes + laterSteps s op (j + 1) := by
  obtain ⟨hj, rfl⟩ := List.getElem?_eq_some_iff.1 h
  rw [laterSteps, List.drop_eq_getElem_cons hj]
  rfl

/-- The steps of a transfer are SEQ's and CTRL's. -/
theorem eagerSteps_eq (bytes : List Byte) : eagerSteps bytes = 2 * bytes.length + 1 + wireSteps bytes := by
  unfold eagerSteps wireSteps
  split_ifs with h
  · simp [h]
  · omega

/-- SEQ enters a transfer at its first point, which is no push (R141). -/
theorem enterTransfer_of_transfer {op : Instr} {j : Nat} {u : State} {bytes : List Byte}
    (h : (transfers u.params op)[j]? = some bytes) : ∃ k, enterTransfer op j u = u.setPos (.at op k) ∧
      PointOf j bytes.length 0 (2 * bytes.length + 1) k ∧ ∀ i, k ≠ .push j i := by
  cases bytes with
  | nil => exact ⟨_, enterTransfer_of_nil h, .pollIdle, fun _ => Point.noConfusion⟩
  | cons b bytes => exact ⟨_, enterTransfer_of_cons h, .pollTfnf 0 (by simp), fun _ => Point.noConfusion⟩

/-- From between two transfers SEQ enters the next one. -/
theorem BetweenTransfers.enter_transfer {s u : State} {op : Instr} {j : Nat} {bytes : List Byte}
    (h : BetweenTransfers s op j u) (hts : (transfers s.params op)[j]? = some bytes) :
    Sending s op j (2 * bytes.length + 1) (wireSteps bytes) (enterTransfer op j u) := by
  obtain ⟨k, heq, hpoint, hpush⟩ := enterTransfer_of_transfer (h.frame.params.symm ▸ hts)
  have hwire : OnWire s.tarAddr (traceBefore s op j) bytes 0 (wireSteps bytes) u :=
    h.trace ▸ OnWire.ofIdle s.tarAddr bytes h.bus h.fifo
  rw [heq]
  exact .intro bytes k 0 ⟨h.frame.trans (operationFrame_setPos u _), hts, rfl, fun i hi => absurd hi (hpush i),
    hwire.congr rfl rfl rfl⟩ hpoint

/-- From between two transfers the operation goes on with the next one, or completes after the last. -/
theorem BetweenTransfers.enter {s u : State} {op : Instr} {j : Nat} (h : BetweenTransfers s op j u)
    (hj : j ≤ (transfers s.params op).length) : OperationRun s op (laterSteps s op j) (enterTransfer op j u) := by
  cases hts : (transfers s.params op)[j]? with
  | none =>
    obtain rfl : j = (transfers s.params op).length := le_antisymm hj (List.getElem?_eq_none_iff.1 hts)
    rw [enterTransfer_of_none (h.frame.params.symm ▸ hts),
      show laterSteps s op (transfers s.params op).length = 0 by simp [laterSteps]]
    exact .completed u h
  | some bytes =>
    rw [laterSteps_eq_of_transfer hts, eagerSteps_eq]
    exact .sending (h.enter_transfer hts)

/-! What the position says. -/

theorem PointOf.due_pos {j len pushed due : Nat} {k : Point} (h : PointOf j len pushed due k) : 0 < due := by
  cases h <;> omega

theorem Sending.due_pos {s u : State} {op : Instr} {j due left : Nat} (h : Sending s op j due left u) : 0 < due := by
  obtain ⟨bytes, k, pushed, -, point⟩ := h
  exact point.due_pos

theorem Sending.pos_ne_idle {s u : State} {op : Instr} {j due left : Nat} (h : Sending s op j due left u) :
    u.pos ≠ .idle := by
  obtain ⟨bytes, k, pushed, place, -⟩ := h
  simp [place.pos]

theorem Sending.frame {s u : State} {op : Instr} {j due left : Nat} (h : Sending s op j due left u) :
    OperationFrame s u := by
  obtain ⟨bytes, k, pushed, place, -⟩ := h
  exact place.frame

/-- During a transfer SEQ always has a step (R23). -/
theorem Sending.threadEnabled {s u : State} {op : Instr} {j due left : Nat} (h : Sending s op j due left u)
    (hq : s.Quiet) : u.threadEnabled = true := by
  obtain ⟨hfault, hrefused⟩ := h.frame.quiet_running hq
  simp [State.threadEnabled, h.pos_ne_idle, hfault, hrefused]

theorem tfnf_of_length_le {u v : State} (hroom : u.tfnf = true) (hparams : v.params = u.params)
    (hle : v.fifo.length ≤ u.fifo.length) : v.tfnf = true := by
  simp only [State.tfnf, hparams, decide_eq_true_eq] at hroom ⊢
  omega

/-- A step that changes nothing of an operation's progress. -/
theorem Sending.congr {s u v : State} {op : Instr} {j due left : Nat} (h : Sending s op j due left u)
    (frame : OperationFrame u v) (hpos : v.pos = u.pos) (hfifo : v.fifo = u.fifo) (hbus : v.bus = u.bus)
    (htrace : v.trace = u.trace) : Sending s op j due left v := by
  obtain ⟨bytes, k, pushed, place, point⟩ := h
  exact .intro bytes k pushed { place with
    frame := place.frame.trans frame
    pos := hpos.trans place.pos
    room := fun i hi => tfnf_of_length_le (place.room i hi) frame.params (by rw [hfifo])
    wire := place.wire.congr hbus hfifo htrace } point

theorem Sending.draw {s u : State} {op : Instr} {j due left : Nat} (h : Sending s op j due left u) :
    Sending s op j due left u.draw :=
  h.congr (operationFrame_draw u) (by simp) (by simp) (by simp) (by simp)

/-! SEQ's steps. -/

/-- What a step of SEQ can do during a transfer: it reads a status that does not let it go on, and then an entry waits if
the FIFO can hold any; it makes one step of progress; or it leaves the transfer, whose transaction is on the trace. -/
inductive ThreadProgress (s : State) (op : Instr) (j due left : Nat) (u t : State) : Prop
  | waits (same : Sending s op j due left t) (blocked : 1 ≤ u.params.txFifoDepth → u.ctrlEnabled = true)
  | moves (d : Nat) (eq : due = d + 1) (next : Sending s op j d left t)
  | leaves (v : State) (due : due = 1) (left : left = 0) (between : BetweenTransfers s op (j + 1) v)
      (isTransfer : j < (transfers s.params op).length) (eq : t = enterTransfer op (j + 1) v)

/-- A full FIFO that can hold an entry holds one. -/
theorem fifo_ne_nil_of_tfnf_eq_false {u : State} (hfull : u.tfnf = false) (hdepth : 1 ≤ u.params.txFifoDepth) :
    u.fifo ≠ [] := by
  simp only [State.tfnf, decide_eq_false_iff_not, not_lt] at hfull
  exact List.ne_nil_of_length_pos (by omega)

theorem SendingAt.transfer_eq {s u : State} {op : Instr} {j pushed left : Nat} {bytes : List Byte} {k : Point}
    (h : SendingAt s op j bytes k pushed left u) : (transfers u.params op)[j]? = some bytes :=
  h.frame.params.symm ▸ h.transfer

theorem SendingAt.wire_draw {s u : State} {op : Instr} {j pushed left : Nat} {bytes : List Byte} {k : Point}
    (h : SendingAt s op j bytes k pushed left u) :
    OnWire s.tarAddr (traceBefore s op j) bytes pushed left u.draw :=
  h.wire.congr (by simp) (by simp) (by simp)

/-- A read that leaves SEQ where it is makes no progress. -/
theorem Sending.read {s u : State} {op : Instr} {j due left : Nat} (h : Sending s op j due left u) (v : Word) :
    Sending s op j due left (u.draw.setRdata v) :=
  h.draw.congr (operationFrame_setRdata _ _) rfl rfl rfl rfl

theorem SendingAt.step_pollTfnf {s u t : State} {op : Instr} {j i left : Nat} {bytes : List Byte}
    (h : SendingAt s op j bytes (.pollTfnf j i) i left u) (hi : i < bytes.length) (hq : s.Quiet)
    (hs : u.stepper = some .thread) (hstep : step u = .next t) :
    ThreadProgress s op j (2 * (bytes.length - i) + 1) left u t := by
  have hpoint : accessAt u.params op (.pollTfnf j i) ≠ none :=
    accessAt_pollTfnf_ne_none.2 (by simpa [h.transfer_eq] using hi)
  rw [Machine.step_pollTfnf hs h.pos hpoint] at hstep
  cases hstep
  cases hroom : u.tfnf with
  | true =>
    have hframe := (operationFrame_draw u).trans
      ((operationFrame_setRdata _ u.icStatus).trans (operationFrame_setPos _ (.at op (.push j i))))
    exact .moves _ rfl (.intro bytes _ i ⟨h.frame.trans hframe, h.transfer, rfl,
      fun _ _ => tfnf_of_length_le hroom (by simp) (by simp), h.wire_draw.congr rfl rfl rfl⟩ (.push i hi))
  | false =>
    have hsame : Sending s op j (2 * (bytes.length - i) + 1) left u := .intro bytes _ i h (.pollTfnf i hi)
    exact .waits (hsame.read _) fun hdepth =>
      (h.frame.ctrlEnabled_iff hq).2 (fifo_ne_nil_of_tfnf_eq_false hroom hdepth)

/-- The point after the push of byte `i`. -/
theorem pointOf_after_push {j len i : Nat} (hi : i < len) : PointOf j len (i + 1) (2 * (len - i) - 1)
    (if i + 1 < len then .pollTfnf j (i + 1) else .pollIdle j) := by
  split_ifs with hlast
  · rw [show 2 * (len - i) - 1 = 2 * (len - (i + 1)) + 1 by omega]
    exact .pollTfnf (i + 1) hlast
  · obtain rfl : i + 1 = len := by omega
    rw [show 2 * (i + 1 - i) - 1 = 1 by omega]
    exact .pollIdle

theorem SendingAt.step_push {s u t : State} {op : Instr} {j i left : Nat} {bytes : List Byte}
    (h : SendingAt s op j bytes (.push j i) i left u) (hi : i < bytes.length) (hq : s.Quiet)
    (hs : u.stepper = some .thread) (hstep : step u = .next t) :
    ThreadProgress s op j (2 * (bytes.length - i)) left u t := by
  have hb : bytes[i]? = some bytes[i] := List.getElem?_eq_getElem hi
  have hfree : u.fifo.length ≠ u.params.txFifoDepth := (of_decide_eq_true (h.room i rfl)).ne
  rw [Machine.step_push hs h.pos h.transfer_eq hb (h.frame.quiet_enabled hq) fun _ => hfree,
    if_neg (by simp [h.frame.txAbort, hq.txAbort])] at hstep
  cases hstep
  have hframe := (operationFrame_draw u).trans
    ((operationFrame_pushEntry _ (transferEntry bytes i bytes[i])).trans (operationFrame_setPos _
      (.at op (if i + 1 < bytes.length then .pollTfnf j (i + 1) else .pollIdle j))))
  exact .moves (2 * (bytes.length - i) - 1) (by omega) (.intro bytes _ (i + 1) ⟨h.frame.trans hframe, h.transfer, rfl,
    fun n hk => absurd hk ((point_after_push_is_poll _ j (i + 1)).2 j n), (h.wire_draw.push hb).congr rfl rfl rfl⟩
    (pointOf_after_push hi))

theorem SendingAt.step_pollIdle {s u t : State} {op : Instr} {j left : Nat} {bytes : List Byte}
    (h : SendingAt s op j bytes (.pollIdle j) bytes.length left u) (hq : s.Quiet)
    (hs : u.stepper = some .thread) (hstep : step u = .next t) : ThreadProgress s op j 1 left u t := by
  have hj : j < (transfers s.params op).length := (List.getElem?_eq_some_iff.1 h.transfer).1
  rw [Machine.step_pollIdle hs h.pos (accessAt_pollIdle_ne_none.2 (by rwa [h.frame.params]))] at hstep
  cases hstep
  cases hact : u.activity with
  | true =>
    have hsame : Sending s op j 1 left u := .intro bytes _ _ h .pollIdle
    refine .waits (hsame.read _) fun _ => (h.frame.ctrlEnabled_iff hq).2 fun hnil => ?_
    have hbusy := mt (h.frame.activity_eq_false_iff hq).2 (by simp [hact])
    exact h.wire.fifo_ne_nil_of_active (by cases hb : u.bus <;> simp_all) hnil
  | false =>
    obtain ⟨hbus, hfifo⟩ := (h.frame.activity_eq_false_iff hq).1 hact
    obtain ⟨hleft, htrace⟩ := h.wire.finished hbus hfifo
    have hframe := (operationFrame_draw u).trans (operationFrame_setRdata _ u.icStatus)
    exact .leaves _ rfl hleft ⟨h.frame.trans hframe, by simpa using hfifo, by simpa using hbus,
      by simpa [traceBefore_succ h.transfer] using htrace⟩ hj rfl

theorem Sending.thread_step {s u t : State} {op : Instr} {j due left : Nat} (h : Sending s op j due left u)
    (hq : s.Quiet) (hs : u.stepper = some .thread) (hstep : step u = .next t) : ThreadProgress s op j due left u t := by
  obtain ⟨bytes, k, pushed, place, point⟩ := h
  cases point with
  | pollTfnf _ hi => exact place.step_pollTfnf hi hq hs hstep
  | push _ hi => exact place.step_push hi hq hs hstep
  | pollIdle => exact place.step_pollIdle hq hs hstep

/-! CTRL's steps. -/

theorem Sending.ctrl_stall {s u : State} {op : Instr} {j due left : Nat} (h : Sending s op j due left u)
    (o : NackChoice) : Sending s op j due left (ctrlStep .stall o u.draw) := by
  rw [ctrlStep_stall]
  exact h.draw

theorem Sending.ctrl_ack {s u : State} {op : Instr} {j due left : Nat} (h : Sending s op j due left u)
    (he : u.ctrlEnabled = true) (o : NackChoice) :
    ∃ l, left = l + 1 ∧ Sending s op j due l (ctrlStep .ack o u.draw) := by
  obtain ⟨bytes, k, pushed, place, point⟩ := h.draw
  have he : u.draw.ctrlEnabled = true := (State.draw_ctrlEnabled u).trans he
  have htar : u.draw.tarAddr = s.tarAddr := State.tarAddr_congr place.frame.icTar
  obtain ⟨l, hl, hwire⟩ := (htar.symm ▸ place.wire).ack he o
  exact ⟨l, hl, .intro bytes k pushed { place with
    frame := place.frame.trans (operationFrame_ctrlStep he (by simp) o)
    pos := (ctrlStep_pos _ _ _).trans place.pos
    room := fun i hi =>
      tfnf_of_length_le (place.room i hi) (ctrlStep_params _ _ _) (ctrlStep_move he .ack o).fifo_length_le
    wire := htar ▸ hwire } point⟩

/-! A step of either agent. -/

/-- A step without progress is made only while CTRL has a step (if the FIFO can hold an entry), and CTRL makes one only on
a STALL. -/
structure Waits (u : State) : Prop where
  blocked : 1 ≤ u.params.txFifoDepth → u.ctrlEnabled = true
  stalled : u.stepper = some .ctrl → u.choice.answer = .stall

theorem Sending.progress_or_waits {s u t : State} {op : Instr} {j due left : Nat} (h : Sending s op j due left u)
    (hq : s.Quiet) (hans : u.stepper = some .ctrl → u.choice.answer ≠ .nack) (hstep : step u = .next t) :
    (Sending s op j due left t ∧ Waits u) ∨
    ∃ n, due + left + laterSteps s op (j + 1) = n + 1 ∧ OperationRun s op n t := by
  cases hs : u.stepper with
  | none => cases (h.threadEnabled hq).symm.trans (stepper_none_iff.1 hs).2
  | some agent =>
    cases agent with
    | thread =>
      obtain ⟨same, blocked⟩ | ⟨d, rfl, next⟩ | ⟨v, rfl, rfl, between, hj, rfl⟩ := h.thread_step hq hs hstep
      · exact .inl ⟨same, blocked, by simp [hs]⟩
      · exact .inr ⟨d + left + laterSteps s op (j + 1), by omega, .sending next⟩
      · exact .inr ⟨laterSteps s op (j + 1), by omega, between.enter hj⟩
    | ctrl =>
      have he := ctrlEnabled_of_stepper hs
      rw [step_of_ctrl hs] at hstep
      cases hstep
      cases hr : u.choice.answer with
      | ack =>
        obtain ⟨l, rfl, next⟩ := h.ctrl_ack he u.choice.nack
        exact .inr ⟨due + l + laterSteps s op (j + 1), by omega, .sending next⟩
      | nack => exact absurd hr (hans hs)
      | stall => exact .inl ⟨h.ctrl_stall u.choice.nack, fun _ => he, fun _ => hr⟩

end Sys2Proof.Machine
end

section
/-! PROOF. Whole runs of one operation (R142, R143, R172): under every interleaving without a NACK, under the eager schedule,
in every fair run, and against a slave that stalls. -/

namespace Sys2Proof.Machine

/-! Runs and the free choices they use up. -/

theorem runSteps_succ {s u : State} (h : step s = .next u) (n : Nat) : runSteps (n + 1) s = runSteps n u := by
  simp [runSteps, h]

theorem step_of_runSteps_succ {s t : State} {n : Nat} (h : runSteps (n + 1) s = .next t) :
    ∃ u, step s = .next u ∧ runSteps n u = .next t := by
  unfold runSteps at h
  cases hstep : step s with
  | next u => exact ⟨u, rfl, by simpa [hstep] using h⟩
  | fault f => simp [hstep] at h
  | refused q => simp [hstep] at h

theorem callerStep_keeps {s t : State} (h : callerStep s = .next t) :
    t.refused = s.refused ∧ t.script = s.script ∧ t.tick = s.tick := by
  obtain ⟨-, rfl⟩ | ⟨w, l, rest, i, -, hdec, hexec⟩ | ⟨body, rest, -, rfl⟩ | ⟨n, body, rest, -, rfl⟩ |
    ⟨body, rest, -, rfl⟩ | ⟨as, rest, -, rfl⟩ := callerStep_next h
  case inr.inl =>
    obtain ⟨k, rfl, -⟩ | ⟨rfl, -, -⟩ := exec_operation_cases (decodeOp_isOperation hdec) hexec <;> simp
  all_goals exact ⟨rfl, rfl, rfl⟩

/-- A thread step that answers a next state sets no refusal mark (R205), and uses up no free choice beside its step's own
(log 1). -/
theorem threadStep_keeps {s t : State} (h : threadStep s = .next t) :
    t.refused = s.refused ∧ t.script = s.script ∧ t.tick = s.tick := by
  obtain ⟨-, h⟩ | ⟨op, k, -, h⟩ | ⟨-, rfl⟩ | ⟨a, rest, -, h⟩ := threadStep_next h
  · exact callerStep_keeps h
  · obtain ⟨-, rfl⟩ | ⟨i, u, hi, hexec, rfl⟩ := seqStep_next h
    · exact ⟨rfl, rfl, rfl⟩
    · obtain ⟨-, -, -, -, -, -, -, -, -, hrefused, -, hscript, htick⟩ := exec_access_frame (accessAt_isAccess hi) hexec
      simp [hrefused, hscript, htick]
  · exact ⟨rfl, rfl, rfl⟩
  · obtain ⟨i, u, hi, hexec, hu⟩ := rawStep_next h
    obtain ⟨-, -, -, -, -, -, -, -, -, hrefused, -, hscript, htick⟩ :=
      exec_access_frame (decodeAccess_isAccess hi) hexec
    obtain ⟨-, rfl⟩ | ⟨-, rfl⟩ := hu <;> exact ⟨hrefused, hscript, htick⟩

/-- A step uses up one free choice (log 1). -/
theorem step_choices {s t : State} (h : step s = .next t) : t.script = s.draw.script ∧ t.tick = s.draw.tick := by
  obtain ⟨-, ⟨-, -, rfl⟩ | ⟨-, -, h⟩ | ⟨-, -, f, -, rfl⟩ | ⟨-, -, q, -, rfl⟩ | ⟨-, rfl⟩⟩ := step_cases h
  · simp
  · exact (threadStep_keeps h).2
  all_goals exact ⟨rfl, rfl⟩

theorem step_choices_of_cons {s t : State} {c : Choice} {cs : List Choice} (hscript : s.script = c :: cs)
    (h : step s = .next t) : t.script = cs ∧ t.tick = s.tick := by
  obtain ⟨hcs, htick⟩ := step_choices h
  rw [State.draw_cons hscript] at hcs htick
  exact ⟨hcs, htick⟩

/-- The first of `n + 1` listed choices with a property, and the others. -/
theorem listed_cons {P : Choice → Prop} {n : Nat} {script : List Choice}
    (h : n + 1 ≤ script.length ∧ ∀ c ∈ script.take (n + 1), P c) :
    ∃ c cs, script = c :: cs ∧ P c ∧ n ≤ cs.length ∧ ∀ d ∈ cs.take n, P d := by
  obtain ⟨hlen, hall⟩ := h
  cases script with
  | nil => simp at hlen
  | cons c cs =>
    exact ⟨c, cs, rfl, hall c (by simp), by simpa using hlen, fun d hd => hall d (by simp [hd])⟩

/-! The step that takes the operation. -/

/-- A quiet state whose CALLER is about to issue `op`, an operation made of WRITE_BUFFERs that SEQ takes. -/
structure Offers (s : State) (op : Instr) (rest : Program) : Prop where
  quiet : s.Quiet
  idle : s.pos = .idle
  request : ∃ w l, s.program = .request w l rest ∧ decode (.op w l) = .ok op
  notInitialize : ∀ spd a7, op ≠ .initializeOp spd a7
  frameLength : ∀ f, op = .sendFramebuffer f → f.length = 1024

theorem ctrlEnabled_eq_false_of_fifo_nil {s : State} (h : s.fifo = []) : s.ctrlEnabled = false := by
  simp [State.ctrlEnabled, h]

theorem threadEnabled_of_request {s : State} {w : BitVec 16} {l : List Byte} {rest : Program} (hrun : s.running)
    (hprog : s.program = .request w l rest) : s.threadEnabled = true := by
  simp [State.threadEnabled, hprog, hrun.1, hrun.2]

/-- A quiet state stays quiet when CALLER's program is replaced. -/
theorem State.Quiet.setProgram {s : State} (h : s.Quiet) (p : Program) : (s.setProgram p).Quiet :=
  { h with }

/-- The thread takes the operation that CALLER offers (R23). -/
theorem step_takes {s : State} {op : Instr} {w : BitVec 16} {l : List Byte} {rest : Program}
    (hs : s.stepper = some .thread) (hpos : s.pos = .idle) (hphase : s.phase = .ready)
    (hprog : s.program = .request w l rest) (hdec : decode (.op w l) = .ok op)
    (hi : ∀ spd a7, op ≠ .initializeOp spd a7) (hfb : ∀ f, op = .sendFramebuffer f → f.length = 1024) :
    step s = .next (enterTransfer op 0 (s.draw.setProgram rest)) := by
  rw [(stepRunsTheOfferedOperation s w l rest hs hpos hprog).1 op hdec,
    exec_transfers_of_ready (by simpa using hphase) (decodeOp_isOperation hdec) hi hfb]
  rfl

theorem Offers.step_eq {s : State} {op : Instr} {rest : Program} (h : Offers s op rest) :
    step s = .next (enterTransfer op 0 (s.draw.setProgram rest)) := by
  obtain ⟨w, l, hprog, hdec⟩ := h.request
  have hs : s.stepper = some .thread :=
    stepper_thread (ctrlEnabled_eq_false_of_fifo_nil h.quiet.fifo) (threadEnabled_of_request h.quiet.running hprog)
  exact step_takes hs h.idle h.quiet.ready hprog hdec h.notInitialize h.frameLength

theorem Offers.between {s : State} {op : Instr} {rest : Program} (h : Offers s op rest) :
    BetweenTransfers (s.setProgram rest) op 0 (s.draw.setProgram rest) where
  frame := by constructor <;> simp
  fifo := by simpa using h.quiet.fifo
  bus := by simpa using h.quiet.bus
  trace := by simp [traceBefore, transactionsEvents]

/-- Once the operation is taken its run has begun. -/
theorem Offers.begin {s : State} {op : Instr} {rest : Program} (h : Offers s op rest) :
    OperationRun (s.setProgram rest) op (((transfers s.params op).map eagerSteps).sum)
      (enterTransfer op 0 (s.draw.setProgram rest)) :=
  h.between.enter (Nat.zero_le _)

/-! The end of the operation. -/

theorem OperationRun.completed_of_zero {s t : State} {op : Instr} (h : OperationRun s op 0 t) :
    ∃ u, BetweenTransfers s op (transfers s.params op).length u ∧ t = complete op u := by
  generalize hn : 0 = n at h
  cases h with
  | completed u h => exact ⟨u, h, rfl⟩
  | sending h =>
    have := h.due_pos
    omega

theorem OperationRun.sending_of_succ {s u : State} {op : Instr} {n : Nat} (h : OperationRun s op (n + 1) u) :
    ∃ j due left, due + left + laterSteps s op (j + 1) = n + 1 ∧ Sending s op j due left u := by
  generalize hm : n + 1 = m at h
  cases h with
  | completed => cases hm
  | sending h => exact ⟨_, _, _, rfl, h⟩

/-- A completed operation has put its transactions on the bus, set `init_done` if it was INIT_SEQUENCE, and changed nothing
else but the last value read and the free choices (R142, R163). -/
theorem OperationRun.eq_of_completed {s t : State} {op : Instr} (hq : s.Quiet)
    (hi : ∀ spd a7, op ≠ .initializeOp spd a7) (h : OperationRun s op 0 t) :
    t = { s with
      trace := s.trace ++ transactionsEvents s.tarAddr (transfers s.params op)
      initDone := s.initDone || decide (op = .initSequence)
      pos := .idle, rdata := t.rdata, script := t.script, tick := t.tick } := by
  obtain ⟨u, between, rfl⟩ := h.completed_of_zero
  have htrace : u.trace = s.trace ++ transactionsEvents s.tarAddr (transfers s.params op) := by
    simpa [traceBefore] using between.trace
  obtain ⟨hparams, hphase, hinit, hcon, htar, hen, hab, hheld, hfault, hrefused, hprog⟩ := between.frame
  rw [complete_transfers_eq hi, ← htrace, ← hparams, ← hphase, ← hinit, ← hcon, ← htar, ← hen, ← hab, ← hheld, ← hfault,
    ← hrefused, ← hprog, hq.fifo, hq.bus, ← between.fifo, ← between.bus]
  rfl

/-! Safety (R142): under every interleaving without a NACK. -/

/-- If no draw answers NACK, SEQ is IDLE first when the operation has completed. -/
theorem OperationRun.completed_of_returns {s t : State} {op : Instr} (hq : s.Quiet) {n : Nat} :
    ∀ {u : State} {due : Nat}, OperationRun s op due u → noNackFor n u.script → runSteps n u = .next t → t.pos = .idle →
    (∀ m v, m < n → runSteps m u = .next v → v.pos ≠ .idle) → OperationRun s op 0 t := by
  induction n with
  | zero =>
    intro u due h _ hrun hidle _
    cases hrun
    cases h with
    | completed v h => exact .completed v h
    | sending h => exact absurd hidle h.pos_ne_idle
  | succ n ih =>
    intro u due h hans hrun hidle hfirst
    obtain ⟨v, hstep, hrun⟩ := step_of_runSteps_succ hrun
    obtain ⟨c, cs, hscript, hc, hcs⟩ := listed_cons hans
    have hans : noNackFor n v.script := (step_choices_of_cons hscript hstep).1 ▸ hcs
    have hfirst' : ∀ m w, m < n → runSteps m v = .next w → w.pos ≠ .idle := fun m w hm hw =>
      hfirst (m + 1) w (by omega) ((runSteps_succ hstep m).trans hw)
    cases h with
    | completed v h => exact absurd (complete_pos op v) (hfirst 0 _ (Nat.succ_pos n) rfl)
    | sending h =>
      obtain ⟨same, -⟩ | ⟨k, -, next⟩ := h.progress_or_waits hq (fun _ => State.choice_cons hscript ▸ hc) hstep
      · exact ih (.sending same) hans hrun hidle hfirst'
      · exact ih next hans hrun hidle hfirst'

/-- Settles O32: the run of the operation is an invariant of the steps without a NACK, and SEQ is IDLE only at its end. -/
theorem writeBufferPutsOneTransactionOnTheBus : Obligations.WriteBufferPutsOneTransactionOnTheBus := by
  intro s t w l op rest n hq hpos hprog hdec hi hfb hans hn hrun hidle hfirst
  have hoffers : Offers s op rest := ⟨hq, hpos, ⟨w, l, hprog, hdec⟩, hi, hfb⟩
  obtain ⟨n, rfl⟩ := Nat.exists_eq_add_one.2 hn
  obtain ⟨c, cs, hscript, -, hcs⟩ := listed_cons hans
  have hans : noNackFor n (enterTransfer op 0 (s.draw.setProgram rest)).script :=
    (step_choices_of_cons hscript hoffers.step_eq).1 ▸ hcs
  have hquiet := hq.setProgram rest
  have hdone := hoffers.begin.completed_of_returns hquiet hans ((runSteps_succ hoffers.step_eq n).symm.trans hrun) hidle
    fun m v hm hv => hfirst (m + 1) v (Nat.succ_pos m) (by omega) ((runSteps_succ hoffers.step_eq m).trans hv)
  rw [hdone.eq_of_completed hquiet hi]
  exact ⟨rfl, hquiet.fifo, hquiet.bus, hquiet.held, hquiet.txAbort, rfl, rfl, hquiet.running⟩

/-! The eager schedule (R116). -/

theorem eagerScript_succ (n : Nat) : eagerScript (n + 1) = eagerAck :: eagerScript n := List.replicate_succ

/-- Under the eager schedule no step waits: CTRL steps while it has a step, and no answer is STALL. -/
theorem not_waits_of_eager {u : State} {cs : List Choice} (hscript : u.script = eagerAck :: cs)
    (hdepth : 1 ≤ u.params.txFifoDepth) : ¬ Waits u := by
  intro hwaits
  have hchoice := State.choice_cons hscript
  have hs : u.stepper = some .ctrl := by simp [State.stepper, hchoice, eagerAck, hwaits.blocked hdepth]
  have hstall := hwaits.stalled hs
  rw [hchoice] at hstall
  cases hstall

theorem OperationRun.completes_eagerly {s : State} {op : Instr} (hq : s.Quiet) (hdepth : 1 ≤ s.params.txFifoDepth)
    {tail : List Choice} {n : Nat} : ∀ {u : State}, OperationRun s op n u → u.script = eagerScript n ++ tail →
    ∃ t, runSteps n u = .next t ∧ OperationRun s op 0 t ∧ t.script = tail ∧ t.tick = u.tick := by
  induction n with
  | zero => exact fun {u} h hscript => ⟨u, rfl, h, hscript, rfl⟩
  | succ n ih =>
    intro u h hscript
    rw [eagerScript_succ, List.cons_append] at hscript
    obtain ⟨j, due, left, hdue, h⟩ := h.sending_of_succ
    obtain ⟨v, hstep⟩ := step_is_next (h.frame.quiet_running hq)
    obtain ⟨hvscript, hvtick⟩ := step_choices_of_cons hscript hstep
    have hans : u.choice.answer ≠ .nack := by simp [State.choice_cons hscript, eagerAck]
    obtain ⟨-, hwaits⟩ | ⟨k, hk, next⟩ := h.progress_or_waits hq (fun _ => hans) hstep
    · exact absurd hwaits (not_waits_of_eager hscript (h.frame.params.symm ▸ hdepth))
    · obtain rfl : k = n := by omega
      rw [runSteps_succ hstep, ← hvtick]
      exact ih next hvscript

/-- Settles O34: every step of the eager run is a step of progress, and their number is the transfers'. -/
theorem eagerRunCompletesTheOperation : Obligations.EagerRunCompletesTheOperation := by
  intro s w l op rest tail hq hdepth hpos hprog hdec hi hfb hscript
  have hoffers : Offers s op rest := ⟨hq, hpos, ⟨w, l, hprog, hdec⟩, hi, hfb⟩
  rw [Nat.add_comm, eagerScript_succ, List.cons_append] at hscript
  obtain ⟨hscript, htick⟩ := step_choices_of_cons hscript hoffers.step_eq
  have hquiet := hq.setProgram rest
  obtain ⟨t, hrun, hdone, htscript, httick⟩ := hoffers.begin.completes_eagerly hquiet hdepth hscript
  refine ⟨t.rdata, ?_⟩
  rw [Nat.add_comm, runSteps_succ hoffers.step_eq, hrun, hdone.eq_of_completed hquiet hi, htscript, httick, htick,
    ← hpos]
  rfl

/-! Liveness (R142, R116): in every fair run under SlaveAcks. -/

/-- No operation waits for ever: CTRL would have a step from then on, so by fairness it would draw an answer that is not
STALL. -/
theorem Sending.progresses {s : State} {op : Instr} {j due left : Nat} {r : Nat → State} {n : Nat} (hq : s.Quiet)
    (hdepth : 1 ≤ s.params.txFifoDepth) (hrun : IsRun r) (hfair : FairRun r) (hslave : SlaveAcks r)
    (h : Sending s op j due left (r n)) :
    ∃ m k, due + left + laterSteps s op (j + 1) = k + 1 ∧ OperationRun s op k (r m) := by
  by_contra hnever
  push Not at hnever
  have hstays : ∀ m, Sending s op j due left (r m) → Sending s op j due left (r (m + 1)) ∧ Waits (r m) := fun m hm =>
    (hm.progress_or_waits hq (hslave.1 m) (hrun m)).resolve_right fun ⟨k, hk, next⟩ => hnever (m + 1) k hk next
  have hall : ∀ m, n ≤ m → Sending s op j due left (r m) := fun m hm =>
    Nat.le_induction h (fun m _ ih => (hstays m ih).1) m hm
  have henabled : ∀ m, n ≤ m → (r m).ctrlEnabled = true := fun m hm =>
    (hstays m (hall m hm)).2.blocked ((hall m hm).frame.params.symm ▸ hdepth)
  have hoften : ∀ k, n ≤ k → ∃ m, k ≤ m ∧ (r m).stepper = some .ctrl := fun k hk =>
    hfair.2 k fun m hm => henabled m (hk.trans hm)
  obtain ⟨m, hm, hs, hanswer⟩ := hslave.2 n hoften
  exact hanswer ((hstays m (hall m hm)).2.stalled hs)

theorem OperationRun.completes {s : State} {op : Instr} {r : Nat → State} (hq : s.Quiet)
    (hdepth : 1 ≤ s.params.txFifoDepth) (hrun : IsRun r) (hfair : FairRun r) (hslave : SlaveAcks r) {due : Nat} :
    ∀ {n : Nat}, OperationRun s op due (r n) → ∃ m, OperationRun s op 0 (r m) := by
  induction due with
  | zero => exact fun {n} h => ⟨n, h⟩
  | succ due ih =>
    intro n h
    obtain ⟨j, d, left, hdue, h⟩ := h.sending_of_succ
    obtain ⟨m, k, hk, next⟩ := h.progresses hq hdepth hrun hfair hslave
    obtain rfl : k = due := by omega
    exact ih next

/-- Settles O33: each step of progress comes in a fair run, and the operation has completed after the last one. -/
theorem writeBufferCompletesInEveryFairRun : Obligations.WriteBufferCompletesInEveryFairRun := by
  intro r w l op rest hrun hfair hslave hq hdepth hpos hprog hdec hi hfb
  have hoffers : Offers (r 0) op rest := ⟨hq, hpos, ⟨w, l, hprog, hdec⟩, hi, hfb⟩
  have hquiet := hq.setProgram rest
  have hbegin : r 1 = enterTransfer op 0 ((r 0).draw.setProgram rest) :=
    Host.Outcome.next.inj ((hrun 0).symm.trans hoffers.step_eq)
  obtain ⟨m, hdone⟩ := OperationRun.completes hquiet hdepth hrun hfair hslave (hbegin ▸ hoffers.begin)
  refine ⟨m, ?_⟩
  rw [hdone.eq_of_completed hquiet hi]
  exact ⟨rfl, rfl, { hquiet with }, rfl, rfl⟩

/-! A slave that always stalls (R145). -/

/-- Against a STALL a step keeps what CTRL still has to do, and SEQ does not leave the transfer. -/
theorem Sending.step_of_stall {s u t : State} {op : Instr} {j due left : Nat} (h : Sending s op j due (left + 1) u)
    (hq : s.Quiet) (hans : u.choice.answer = .stall) (hstep : step u = .next t) :
    ∃ due', Sending s op j due' (left + 1) t := by
  cases hs : u.stepper with
  | none => cases (h.threadEnabled hq).symm.trans (stepper_none_iff.1 hs).2
  | some agent =>
    cases agent with
    | thread =>
      obtain ⟨same, -⟩ | ⟨d, -, next⟩ | ⟨v, -, hleft, -, -, -⟩ := h.thread_step hq hs hstep
      · exact ⟨due, same⟩
      · exact ⟨d, next⟩
      · cases hleft
    | ctrl =>
      rw [step_of_ctrl hs, hans] at hstep
      cases hstep
      exact ⟨due, h.ctrl_stall u.choice.nack⟩

theorem Sending.runSteps_of_stall {s t : State} {op : Instr} {j left : Nat} (hq : s.Quiet) {n : Nat} :
    ∀ {u : State} {due : Nat}, Sending s op j due (left + 1) u → stallFor n u.script → runSteps n u = .next t →
    ∃ due', Sending s op j due' (left + 1) t := by
  induction n with
  | zero =>
    intro u due h _ hrun
    cases hrun
    exact ⟨due, h⟩
  | succ n ih =>
    intro u due h hans hrun
    obtain ⟨v, hstep, hrun⟩ := step_of_runSteps_succ hrun
    obtain ⟨c, cs, hscript, hc, hcs⟩ := listed_cons hans
    obtain ⟨due', next⟩ := h.step_of_stall hq (State.choice_cons hscript ▸ hc) hstep
    exact ih next ((step_choices_of_cons hscript hstep).1 ▸ hcs) hrun

/-- While the START of a transfer is due the trace is as before the transfer. -/
theorem Sending.trace_of_waiting {s u : State} {op : Instr} {j due : Nat} {bytes : List Byte}
    (hts : (transfers s.params op)[j]? = some bytes) (h : Sending s op j due (bytes.length + 1) u) :
    u.trace = traceBefore s op j := by
  obtain ⟨bytes', k, pushed, place, -⟩ := h
  obtain rfl : bytes' = bytes := Option.some.inj (place.transfer.symm.trans hts)
  exact place.wire.trace_of_waiting

/-- Settles O37: the START stays due, so SEQ stays in the transfer and the trace is as before it. -/
theorem stalledSlaveBlocksForEver : Obligations.StalledSlaveBlocksForEver := by
  intro s t b bytes rest n hq hpos hprog hans hn hrun
  have hoffers : Offers s (.writeBuffer (b :: bytes)) rest :=
    ⟨hq, hpos, ⟨_, _, hprog, rfl⟩, fun _ _ => Instr.noConfusion, fun _ => Instr.noConfusion⟩
  obtain ⟨n, rfl⟩ := Nat.exists_eq_add_one.2 hn
  obtain ⟨c, cs, hscript, -, hcs⟩ := listed_cons hans
  rw [runSteps_succ hoffers.step_eq] at hrun
  have hquiet := hq.setProgram rest
  obtain ⟨due, h⟩ := (hoffers.between.enter_transfer rfl).runSteps_of_stall (left := (b :: bytes).length) hquiet
    ((step_choices_of_cons hscript hoffers.step_eq).1 ▸ hcs) hrun
  refine ⟨h.pos_ne_idle, ?_, h.frame.quiet_running hquiet⟩
  simpa [traceBefore, transactionsEvents] using h.trace_of_waiting rfl

end Sys2Proof.Machine
end

section
/-! PROOF. CALLER issues operations only (R140, R143, R144): every access that SEQ makes then has its effect, so that no
fault but an order fault arises, and the operation invariant is kept. -/

namespace Sys2Proof.Machine

/-! The configuration writes of INITIALIZE (R140). -/

theorem accessAt_initializeOp_cases {p : Params} {spd : BitVec 2} {a7 : BitVec 7} {n : Nat} {i : Instr}
    (h : accessAt p (.initializeOp spd a7) (.cfg n) = some i) :
    (n = 0 ∧ i = .strIcEnable (enableWord false)) ∨ (n = 1 ∧ i = .strIcCon (conWord spd)) ∨
    (n = 2 ∧ i = .strIcTar (tarWord a7)) ∨ (n = 3 ∧ i = .strIcEnable (enableWord true)) := by
  simp only [accessAt, cfgAccesses, initializeAccesses] at h
  match n, h with
  | 0, h => exact .inl ⟨rfl, (Option.some.inj h).symm⟩
  | 1, h => exact .inr (.inl ⟨rfl, (Option.some.inj h).symm⟩)
  | 2, h => exact .inr (.inr (.inl ⟨rfl, (Option.some.inj h).symm⟩))
  | 3, h => exact .inr (.inr (.inr ⟨rfl, (Option.some.inj h).symm⟩))

theorem enableEnable_enableWord (en : Bool) : enableEnable (enableWord en) = en := by
  revert en; decide

theorem enableAdmitted_enableWord (en : Bool) : enableAdmitted (enableWord en) = true := by
  revert en; decide

theorem exec_enableWord {s : State} {en : Bool}
    (h : en = true ∨ (s.bus = .idle ∧ s.held = false ∧ s.fifo = [])) :
    exec (.strIcEnable (enableWord en)) s = .next (s.setIcEnable (enableWord en)) := by
  obtain ⟨-, -, -, heffect⟩ := strIcEnableFollowsItsRule (enableWord en) s
  exact heffect ((enableAdmitted_iff _).1 (enableAdmitted_enableWord en)) (h.imp_left (enableEnable_enableWord en).trans)

theorem exec_conWord {s : State} {spd : BitVec 2} (hspd : speedAdmitted spd = true) (hdis : s.enabled = false) :
    exec (.strIcCon (conWord spd)) s = .next (s.setIcCon (conWord spd)) := by
  have hword : ∀ spd, speedAdmitted spd = true →
      conAdmitted (conWord spd) = true ∧ conClearBit10 (conWord spd) = conWord spd := by decide
  obtain ⟨hadmitted, hclear⟩ := hword spd hspd
  exact (writeRegister_of_passed (if_pos hadmitted) (if_neg (ne_true_of_eq_false hdis))).trans (by rw [hclear])

theorem exec_tarWord {s : State} (a7 : BitVec 7) (hdis : s.enabled = false) :
    exec (.strIcTar (tarWord a7)) s = .next (s.setIcTar (tarWord a7)) := by
  have hadmitted : ∀ a7, tarAdmitted (tarWord a7) = true := by decide
  exact writeRegister_of_passed (if_pos (hadmitted a7)) (if_neg (ne_true_of_eq_false hdis))

/-! The operation invariant by SEQ's position. -/

/-- At IDLE the invariant asks for nothing of SEQ. -/
theorem State.OperationInv.ofIdle {t : State} (hraw : t.program.rawFree = true) (hpos : t.pos = .idle)
    (huninit : t.phase = .uninit → t.fifo = [] ∧ t.bus = .idle ∧ t.held = false ∧ t.txAbort = false)
    (hready : t.phase = .ready → t.enabled = true) : t.OperationInv where
  programRawFree := hraw
  posRawFree accesses h := by cases hpos.symm.trans h
  uninit h := by
    obtain ⟨hfifo, hbus, hheld, hab⟩ := huninit h
    exact ⟨hfifo, hbus, hheld, hab, fun _ _ hat => by cases hpos.symm.trans hat⟩
  ready h := ⟨hready h, fun _ _ _ hat => by cases hpos.symm.trans hat⟩
  pushRoom _ _ _ hat := by cases hpos.symm.trans hat

/-- In phase UNINIT with INITIALIZE under way. -/
theorem State.OperationInv.ofConfig {t : State} {spd : BitVec 2} {a7 : BitVec 7} {n : Nat}
    (hraw : t.program.rawFree = true) (hphase : t.phase = .uninit)
    (hquiet : t.fifo = [] ∧ t.bus = .idle ∧ t.held = false ∧ t.txAbort = false)
    (hpos : t.pos = .at (.initializeOp spd a7) (.cfg n)) (hspd : speedAdmitted spd = true)
    (hdis : n = 1 ∨ n = 2 → t.enabled = false) : t.OperationInv where
  programRawFree := hraw
  posRawFree accesses h := by cases hpos.symm.trans h
  uninit _ := by
    obtain ⟨hfifo, hbus, hheld, hab⟩ := hquiet
    refine ⟨hfifo, hbus, hheld, hab, fun op k hat => ?_⟩
    cases hpos.symm.trans hat
    exact ⟨spd, a7, n, rfl, rfl, hspd, hdis⟩
  ready h := by cases hphase.symm.trans h
  pushRoom _ _ _ hat := by cases hpos.symm.trans hat

/-- In phase READY at a point of a transfer. -/
theorem State.OperationInv.ofPoint {t : State} {op : Instr} {k : Point} (hraw : t.program.rawFree = true)
    (hphase : t.phase = .ready) (hen : t.enabled = true) (hpos : t.pos = .at op k) (hcfg : ∀ n, k ≠ .cfg n)
    (hroom : ∀ j i, k = .push j i → t.tfnf = true) : t.OperationInv where
  programRawFree := hraw
  posRawFree accesses h := by cases hpos.symm.trans h
  uninit h := by cases hphase.symm.trans h
  ready _ := ⟨hen, fun op' k' n hat hk => by
    cases hpos.symm.trans hat
    exact hcfg n hk⟩
  pushRoom op' j i hat := by
    cases hpos.symm.trans hat
    exact of_decide_eq_true (hroom j i rfl)

/-- In phase READY the invariant does not depend on where SEQ goes between transfers. -/
theorem operationInv_enterTransfer {s : State} (op : Instr) (j : Nat) (hraw : s.program.rawFree = true)
    (hphase : s.phase = .ready) (hen : s.enabled = true) : (enterTransfer op j s).OperationInv := by
  obtain ⟨-, heq⟩ | ⟨k, hk, heq⟩ := enterTransfer_cases op j s
  · have hready : (complete op s).phase = .ready := by
      obtain ⟨spd, a7, -, h⟩ | ⟨-, h⟩ | ⟨-, -, h⟩ := complete_cases op s <;> simp [h, hphase]
    rw [heq]
    refine .ofIdle (by simpa using hraw) (complete_pos op s) (fun h => by cases hready.symm.trans h) fun _ => ?_
    exact (State.enabled_congr (complete_icEnable op s)).trans hen
  · rw [heq]
    obtain ⟨rfl, -⟩ | ⟨rfl, -⟩ := transferStart_cases hk
    · exact .ofPoint hraw hphase hen rfl (fun _ => Point.noConfusion) (fun _ _ => Point.noConfusion)
    · exact .ofPoint hraw hphase hen rfl (fun _ => Point.noConfusion) (fun _ _ => Point.noConfusion)

/-- A push is the push of a byte of a transfer. -/
theorem accessAt_push_some {p : Params} {op i : Instr} {j n : Nat} (h : accessAt p op (.push j n) = some i) :
    ∃ bytes b, (transfers p op)[j]? = some bytes ∧ bytes[n]? = some b := by
  simp only [accessAt, pushAccess] at h
  split at h
  · cases h
  · next bytes hts =>
    split at h
    · cases h
    · next b hb => exact ⟨bytes, b, hts, hb⟩

/-- What the invariant says of an access of SEQ: it has its effect, and keeps the invariant. -/
def AccessKeeps (op : Instr) (k : Point) (i : Instr) (s : State) : Prop :=
  ∃ u, exec i s = .next u ∧ (advance op k u).OperationInv

/-- The configuration writes pass their checks: the controller is quiet, and disabled where that is asked for (R140). -/
theorem State.OperationInv.config_access {s : State} {op i : Instr} {k : Point} (h : s.OperationInv)
    (hphase : s.phase = .uninit) (hpos : s.pos = .at op k) (hi : accessAt s.params op k = some i) :
    AccessKeeps op k i s := by
  obtain ⟨hfifo, hbus, hheld, hab, hconfig⟩ := h.uninit hphase
  obtain ⟨spd, a7, n, rfl, rfl, hspd, hdis⟩ := hconfig op k hpos
  have hquiet : s.fifo = [] ∧ s.bus = .idle ∧ s.held = false ∧ s.txAbort = false := ⟨hfifo, hbus, hheld, hab⟩
  obtain ⟨rfl, rfl⟩ | ⟨rfl, rfl⟩ | ⟨rfl, rfl⟩ | ⟨rfl, rfl⟩ := accessAt_initializeOp_cases hi
  · exact ⟨_, exec_enableWord (.inr ⟨hbus, hheld, hfifo⟩), .ofConfig h.programRawFree hphase hquiet rfl hspd
      fun _ => enableEnable_enableWord false⟩
  · exact ⟨_, exec_conWord hspd (hdis (.inl rfl)),
      .ofConfig h.programRawFree hphase hquiet rfl hspd fun _ => hdis (.inl rfl)⟩
  · exact ⟨_, exec_tarWord a7 (hdis (.inr rfl)), .ofConfig h.programRawFree hphase hquiet rfl hspd (by omega)⟩
  · exact ⟨_, exec_enableWord (.inl rfl), .ofIdle h.programRawFree rfl (fun hp => by cases hp)
      fun _ => enableEnable_enableWord true⟩

/-- In phase READY SEQ polls, or pushes into a FIFO with room (R141). -/
theorem State.OperationInv.transfer_access {s : State} {op i : Instr} {k : Point} (h : s.OperationInv)
    (hphase : s.phase = .ready) (hpos : s.pos = .at op k) (hi : accessAt s.params op k = some i) :
    AccessKeeps op k i s := by
  obtain ⟨hen, hcfg⟩ := h.ready hphase
  have hraw := h.programRawFree
  cases k with
  | cfg n => exact absurd rfl (hcfg op _ n hpos)
  | pollTfnf j i' =>
    obtain rfl : i = .ldrIcStatus := Option.some.inj (hi.symm.trans (accessAt_pollTfnf_eq (by simp [hi])))
    refine ⟨_, exec_ldrIcStatus s, ?_⟩
    simp only [advance, State.setRdata_rdata, statusTfnf_icStatus]
    split_ifs with hroom
    · exact .ofPoint hraw hphase hen rfl (fun _ => Point.noConfusion) (fun _ _ _ => hroom)
    · exact .ofPoint hraw hphase hen hpos (fun _ => Point.noConfusion) (fun _ _ => Point.noConfusion)
  | push j i' =>
    obtain ⟨bytes, b, hts, hb⟩ := accessAt_push_some hi
    obtain rfl := Option.some.inj (hi.symm.trans (accessAt_push_eq hts hb))
    have hroom := h.pushRoom op j i' hpos
    refine ⟨_, exec_push hen fun _ => hroom.ne, ?_⟩
    generalize hu : (if s.txAbort = true then s else s.pushEntry _) = u
    have frame : OperationFrame s u := by
      rw [← hu]
      split_ifs
      exacts [.refl s, operationFrame_pushEntry s _]
    rw [advance_push (bytes := bytes) (frame.params.symm ▸ hts)]
    obtain ⟨hnotCfg, hnotPush⟩ := point_after_push_is_poll (i' + 1 < bytes.length) j (i' + 1)
    exact .ofPoint (frame.program.symm ▸ hraw) (frame.phase.trans hphase)
      ((State.enabled_congr frame.icEnable).trans hen) rfl hnotCfg fun j' n hk => absurd hk (hnotPush j' n)
  | pollIdle j =>
    obtain rfl := accessAt_pollIdle_eq hi
    refine ⟨_, exec_ldrIcStatus s, ?_⟩
    simp only [advance, State.setRdata_rdata, statusActivity_icStatus]
    split_ifs
    · exact .ofPoint hraw hphase hen hpos (fun _ => Point.noConfusion) (fun _ _ => Point.noConfusion)
    · exact operationInv_enterTransfer op (j + 1) hraw hphase hen

theorem State.OperationInv.access {s : State} {op i : Instr} {k : Point} (h : s.OperationInv)
    (hpos : s.pos = .at op k) (hi : accessAt s.params op k = some i) : AccessKeeps op k i s := by
  cases hphase : s.phase with
  | uninit => exact h.config_access hphase hpos hi
  | ready => exact h.transfer_access hphase hpos hi

/-! The invariant is kept (R143). -/

/-- Two programs without RAW make one without RAW. -/
theorem rawFree_andThen {p q : Program} (hp : p.rawFree = true) (hq : q.rawFree = true) :
    (p.andThen q).rawFree = true := by
  induction p with
  | done => exact hq
  | request w l rest ih => exact ih hp
  | repeatN n body rest _ ih | forever body rest _ ih =>
    simp only [Program.rawFree, Bool.and_eq_true] at hp
    simp [Program.andThen, Program.rawFree, hp.1, ih hp.2]
  | raw => cases hp

theorem State.OperationInv.quiet_of_uninit {s : State} (h : s.OperationInv) (hphase : s.phase = .uninit) :
    s.fifo = [] ∧ s.bus = .idle ∧ s.held = false ∧ s.txAbort = false := by
  obtain ⟨hfifo, hbus, hheld, hab, -⟩ := h.uninit hphase
  exact ⟨hfifo, hbus, hheld, hab⟩

theorem State.OperationInv.enabled_of_ready {s : State} (h : s.OperationInv) (hphase : s.phase = .ready) :
    s.enabled = true :=
  (h.ready hphase).1

/-- At IDLE the invariant is kept when CALLER's program is replaced. -/
theorem State.OperationInv.setProgram {s : State} (h : s.OperationInv) (hpos : s.pos = .idle) {p : Program}
    (hp : p.rawFree = true) : (s.setProgram p).OperationInv :=
  .ofIdle hp hpos h.quiet_of_uninit h.enabled_of_ready

/-- Taking an operation keeps the invariant. -/
theorem State.OperationInv.exec_operation {s t : State} {op : Instr} (h : s.OperationInv) (ho : op.isAccess = false)
    (hexec : exec op s = .next t) : t.OperationInv := by
  by_cases hi : ∃ spd a7, op = .initializeOp spd a7
  · obtain ⟨spd, a7, rfl⟩ := hi
    obtain ⟨hspd, hphase, rfl⟩ := exec_initialize_next hexec
    exact .ofConfig h.programRawFree hphase (h.quiet_of_uninit hphase) rfl hspd (by omega)
  · push Not at hi
    obtain ⟨hts, rfl⟩ := exec_transfers_next ho hi hexec
    cases hphase : s.phase with
    | uninit =>
      have hnone : (transfers s.params op)[0]? = none := by simp [hts.resolve_right (by simp [hphase])]
      rw [enterTransfer_of_none hnone, complete_transfers_eq hi]
      exact .ofIdle h.programRawFree rfl h.quiet_of_uninit h.enabled_of_ready
    | ready => exact operationInv_enterTransfer op 0 h.programRawFree hphase (h.enabled_of_ready hphase)

theorem State.OperationInv.callerStep {s t : State} (h : s.OperationInv) (hpos : s.pos = .idle)
    (hstep : callerStep s = .next t) : t.OperationInv := by
  have hraw := h.programRawFree
  obtain ⟨-, rfl⟩ | ⟨w, l, rest, i, hprog, hdec, hexec⟩ | ⟨body, rest, hprog, rfl⟩ | ⟨n, body, rest, hprog, rfl⟩ |
    ⟨body, rest, hprog, rfl⟩ | ⟨as, rest, hprog, -⟩ := callerStep_next hstep
  · exact h
  all_goals
    rw [hprog] at hraw
    simp only [Program.rawFree, Bool.and_eq_true, Bool.false_eq_true] at hraw
  · exact (h.setProgram hpos hraw).exec_operation (decodeOp_isOperation hdec) hexec
  · exact h.setProgram hpos hraw.2
  · exact h.setProgram hpos (rawFree_andThen hraw.1 (by simp [Program.rawFree, hraw]))
  · exact h.setProgram hpos (rawFree_andThen hraw.1 (by simp [Program.rawFree, hraw]))

theorem State.OperationInv.threadStep {s t : State} (h : s.OperationInv) (hstep : threadStep s = .next t) :
    t.OperationInv := by
  obtain ⟨hpos, hstep⟩ | ⟨op, k, hpos, hstep⟩ | ⟨hpos, -⟩ | ⟨a, rest, hpos, -⟩ := threadStep_next hstep
  · exact h.callerStep hpos hstep
  · obtain ⟨-, rfl⟩ | ⟨i, u, hi, hexec, rfl⟩ := seqStep_next hstep
    · exact h
    · obtain ⟨v, hv, hkeep⟩ := h.access hpos hi
      cases hexec.symm.trans hv
      exact hkeep
  · exact absurd hpos (h.posRawFree _)
  · exact absurd hpos (h.posRawFree _)

/-- A step that leaves SEQ and the program alone keeps the invariant when the FIFO does not grow and, in phase UNINIT, the
controller is left alone too. -/
theorem State.OperationInv.congr {s t : State} (h : s.OperationInv) (hprog : t.program = s.program)
    (hpos : t.pos = s.pos) (hphase : t.phase = s.phase) (hparams : t.params = s.params) (hen : t.enabled = s.enabled)
    (hfifo : t.fifo.length ≤ s.fifo.length)
    (huninit : s.phase = .uninit → t.bus = s.bus ∧ t.held = s.held ∧ t.txAbort = s.txAbort) : t.OperationInv where
  programRawFree := hprog ▸ h.programRawFree
  posRawFree := hpos ▸ h.posRawFree
  uninit hp := by
    rw [hphase] at hp
    obtain ⟨hnil, hrest⟩ := h.uninit hp
    obtain ⟨hbus, hheld, hab⟩ := huninit hp
    rw [hbus, hheld, hab, hpos, hen]
    exact ⟨List.length_eq_zero_iff.1 (Nat.le_zero.1 (by simpa [hnil] using hfifo)), hrest⟩
  ready hp := by
    rw [hpos, hen]
    exact h.ready (hphase ▸ hp)
  pushRoom op j i hat := by
    rw [hparams]
    exact hfifo.trans_lt (h.pushRoom op j i (hpos ▸ hat))

theorem State.OperationInv.draw {s : State} (h : s.OperationInv) : s.draw.OperationInv :=
  h.congr (by simp) (by simp) (by simp) (by simp) (by simp) (by simp) (by simp)

/-- Settles O48: in phase UNINIT CTRL has no step, in phase READY its step leaves SEQ alone and makes no FIFO longer; the
thread's steps are CALLER's and SEQ's. -/
theorem operationInvariantIsKept : Obligations.OperationInvariantIsKept := by
  intro s t h hstep
  obtain ⟨-, ⟨-, he, rfl⟩ | ⟨-, -, hstep⟩ | ⟨-, -, f, -, rfl⟩ | ⟨-, -, q, -, rfl⟩ | ⟨-, rfl⟩⟩ := step_cases hstep
  · refine h.congr (by simp) (by simp) (by simp) (by simp) (by simp)
      (by simpa using (ctrlMove_of_ctrlEnabled he).fifo_length_le) fun hphase => ?_
    exact absurd (h.quiet_of_uninit hphase).1 ((ctrlEnabled_iff s).1 he).2.1
  · exact h.draw.threadStep hstep
  · exact h.draw.congr rfl rfl rfl rfl rfl le_rfl fun _ => ⟨rfl, rfl, rfl⟩
  · exact h.draw.congr rfl rfl rfl rfl rfl le_rfl fun _ => ⟨rfl, rfl, rfl⟩
  · exact h.draw

/-! The stops that are left (R144, R201). -/

/-- A next state, an order fault, or a refusal of the request's own encoding or operand. -/
inductive OrderStop : Result → Prop
  | next (t : State) : OrderStop (.next t)
  | reinit : OrderStop (.fault .fReinit)
  | notInitialized : OrderStop (.fault .fNotInitialized)
  | reservedOp : OrderStop (.refused .qReservedOp)
  | speed : OrderStop (.refused .qSpeed)
  | fbLength : OrderStop (.refused .qFbLength)

theorem orderStop_startTransfers (op : Instr) (s : State) : OrderStop (startTransfers op s) := by
  unfold startTransfers
  split_ifs
  · exact .notInitialized
  · exact .next _

theorem orderStop_exec_operation {op : Instr} (ho : op.isAccess = false) (s : State) : OrderStop (exec op s) := by
  cases op with
  | initializeOp spd a7 =>
    simp only [exec, execInitialize]
    split_ifs
    · exact .reinit
    · exact .next _
    · exact .speed
  | sendFramebuffer f =>
    simp only [exec, execSendFramebuffer]
    split_ifs
    · exact orderStop_startTransfers _ s
    · exact .fbLength
  | writeBuffer | sendCommand | sendCommandList | initSequence => exact orderStop_startTransfers _ s
  | _ => cases ho

theorem orderStop_callerStep (s : State) : OrderStop (callerStep s) := by
  unfold callerStep
  split
  case h_2 w l rest _ =>
    cases hdec : decode (.op w l) with
    | ok i => exact orderStop_exec_operation (decodeOp_isOperation hdec) _
    | error e => exact decode_op_error hdec ▸ .reservedOp
  all_goals exact .next _

/-- No register access of an operation stops the run (R144). -/
theorem State.OperationInv.orderStop_threadStep {s : State} (h : s.OperationInv) :
    OrderStop (Machine.threadStep s) := by
  match hpos : s.pos with
  | .idle =>
    simp only [Machine.threadStep, hpos]
    exact orderStop_callerStep s
  | .at op k =>
    simp only [Machine.threadStep, hpos, seqStep]
    split
    · exact .next _
    · next i hi =>
      obtain ⟨u, hu, -⟩ := h.access hpos hi
      rw [hu]
      exact .next _
  | .raw accesses => exact absurd hpos (h.posRawFree accesses)

/-- Settles O49: a step that stops the run is the thread's, and the thread has the stops of taking an operation only. -/
theorem engineRaisesOnlyOrderFaults : Obligations.EngineRaisesOnlyOrderFaults := by
  intro s t h hstep
  have hstop := h.draw.orderStop_threadStep
  obtain ⟨⟨hfault, hrefused⟩, ⟨-, -, rfl⟩ | ⟨-, -, hstep⟩ | ⟨-, -, f, hf, rfl⟩ | ⟨-, -, q, hq, rfl⟩ | ⟨-, rfl⟩⟩ :=
    step_cases hstep
  · simp [hfault, hrefused]
  · have hkeep := threadStep_keeps hstep
    simp [threadStep_next_fault hstep, hkeep.1, hfault, hrefused]
  · rw [hf] at hstop
    cases hstop <;> simp [hrefused]
  · rw [hq] at hstop
    cases hstop <;> simp [hfault]
  · simp [hfault, hrefused]

end Sys2Proof.Machine
end

section
/-! PROOF. Runs that no free choice can change, because CTRL never has a step in them: INITIALIZE under the launch premise
(R140), and the WRITE_BUFFERs that emit nothing (R146). -/

namespace Sys2Proof.Machine

/-- Drawing the free choice changes the two choice fields alone (log 1). -/
theorem exists_draw (s : State) : ∃ script tick, s.draw = { s with script := script, tick := tick } := by
  unfold State.draw
  split <;> exact ⟨_, _, rfl⟩

theorem threadEnabled_of_pos {s : State} {op : Instr} {k : Point} (hrun : s.running) (hpos : s.pos = .at op k) :
    s.threadEnabled = true := by
  simp [State.threadEnabled, hpos, hrun.1, hrun.2]

/-! INITIALIZE (R140). -/

theorem conWord_eq {spd : BitVec 2} (h : speedAdmitted spd = true) :
    conWord spd = if spd = 2#2 then 0x00000065#32 else 0x00000063#32 := by
  revert spd; decide

/-- INITIALIZE, taken in state `s`, with its first `n` configuration writes made (R140). -/
def configured (s : State) (spd : BitVec 2) (a7 : BitVec 7) (rest : Program) (n : Nat) (script : List Choice)
    (tick : Nat) : State :=
  { s with
    program := rest, pos := .at (.initializeOp spd a7) (.cfg n)
    icEnable := if 0 < n then enableWord false else s.icEnable
    icCon := if 1 < n then conWord spd else s.icCon
    icTar := if 2 < n then tarWord a7 else s.icTar
    script := script, tick := tick }

/-- Taking INITIALIZE with nothing in the FIFO, up to the free choice used. -/
theorem step_takes_initializeOp {s : State} {spd : BitVec 2} {a7 : BitVec 7} {l : List Byte} {rest : Program}
    (hrun : s.running) (hpos : s.pos = .idle) (hphase : s.phase = .uninit) (hfifo : s.fifo = [])
    (hspd : spd ∈ [1#2, 2#2]) (hprog : s.program = .request (initializeWord spd a7) l rest) :
    ∃ script tick, step s = .next (configured s spd a7 rest 0 script tick) := by
  obtain ⟨script, tick, hdraw⟩ := exists_draw s
  have hs := stepper_thread (ctrlEnabled_eq_false_of_fifo_nil hfifo) (threadEnabled_of_request hrun hprog)
  obtain ⟨-, -, htaken⟩ := initializeIsTakenAfterItsChecks spd a7 (s.draw.setProgram rest)
  refine ⟨script, tick, ?_⟩
  rw [(stepRunsTheOfferedOperation s _ l rest hs hpos hprog).1 _ (decode_initializeWord spd a7 l),
    htaken hspd (by simpa using hphase), hdraw]
  rfl

/-- A configuration write with nothing in the FIFO, up to the free choice used. -/
theorem step_config {s : State} {spd : BitVec 2} {a7 : BitVec 7} {rest : Program} {n : Nat} {i : Instr}
    {script : List Choice} {tick : Nat} (f : State → State) (hrun : s.running) (hfifo : s.fifo = [])
    (hi : (initializeAccesses spd a7)[n]? = some i)
    (hexec : exec i (configured s spd a7 rest n script tick).draw =
      .next (f (configured s spd a7 rest n script tick).draw)) :
    ∃ script' tick', step (configured s spd a7 rest n script tick) =
      .next (advance (.initializeOp spd a7) (.cfg n) (f (configured s spd a7 rest n script' tick'))) := by
  obtain ⟨script', tick', hdraw⟩ := exists_draw (configured s spd a7 rest n script tick)
  have hs : (configured s spd a7 rest n script tick).stepper = some .thread :=
    stepper_thread (ctrlEnabled_eq_false_of_fifo_nil hfifo) (threadEnabled_of_pos hrun rfl)
  exact ⟨script', tick', by rw [step_of_access hs rfl hi hexec, hdraw]; rfl⟩

/-- Each of the first three configuration writes is made (R140). -/
theorem step_configured {s : State} {spd : BitVec 2} (hrun : s.running) (hfifo : s.fifo = []) (hbus : s.bus = .idle)
    (hheld : s.held = false) (hspd : speedAdmitted spd = true) (a7 : BitVec 7) (rest : Program) {n : Nat} (hn : n < 3)
    (script : List Choice) (tick : Nat) :
    ∃ script' tick', step (configured s spd a7 rest n script tick) =
      .next (configured s spd a7 rest (n + 1) script' tick') := by
  have hdisabled : 0 < n → (configured s spd a7 rest n script tick).draw.enabled = false := fun hn => by
    simp [configured, State.enabled, hn, enableEnable_enableWord]
  obtain rfl | rfl | rfl : n = 0 ∨ n = 1 ∨ n = 2 := by omega
  · exact step_config (fun v => v.setIcEnable (enableWord false)) hrun hfifo rfl
      (exec_enableWord (.inr ⟨(State.draw_bus _).trans hbus, (State.draw_held _).trans hheld,
        (State.draw_fifo _).trans hfifo⟩))
  · exact step_config (fun v => v.setIcCon (conWord spd)) hrun hfifo rfl (exec_conWord hspd (hdisabled (by omega)))
  · exact step_config (fun v => v.setIcTar (tarWord a7)) hrun hfifo rfl (exec_tarWord a7 (hdisabled (by omega)))

/-- The fourth configuration write completes INITIALIZE (R140). -/
theorem step_configured_last {s : State} (hrun : s.running) (hfifo : s.fifo = []) (spd : BitVec 2) (a7 : BitVec 7)
    (rest : Program) (script : List Choice) (tick : Nat) :
    ∃ script' tick', step (configured s spd a7 rest 3 script tick) = .next { s with
      phase := .ready, pos := .idle, icCon := conWord spd, icTar := tarWord a7, icEnable := enableWord true
      program := rest, script := script', tick := tick' } :=
  step_config (fun v => v.setIcEnable (enableWord true)) hrun hfifo rfl (exec_enableWord (.inl rfl))

/-- Settles O23: the five steps are the thread's, and each access has its effect. -/
theorem initializeConfiguresTheController : Obligations.InitializeConfiguresTheController := by
  intro s spd a7 l rest hrun hpos hphase hfifo hbus hheld hspd hprog
  have hadmitted := (speedAdmitted_iff_mem spd).2 hspd
  have hwrite := fun n hn => step_configured hrun hfifo hbus hheld hadmitted a7 rest (n := n) hn
  obtain ⟨c₀, k₀, h₀⟩ := step_takes_initializeOp hrun hpos hphase hfifo hspd hprog
  obtain ⟨c₁, k₁, h₁⟩ := hwrite 0 (by omega) c₀ k₀
  obtain ⟨c₂, k₂, h₂⟩ := hwrite 1 (by omega) c₁ k₁
  obtain ⟨c₃, k₃, h₃⟩ := hwrite 2 (by omega) c₂ k₂
  obtain ⟨c₄, k₄, h₄⟩ := step_configured_last hrun hfifo spd a7 rest c₃ k₃
  refine ⟨c₄, k₄, ?_⟩
  rw [runSteps_succ h₀, runSteps_succ h₁, runSteps_succ h₂, runSteps_succ h₃, runSteps_succ h₄, conWord_eq hadmitted,
    ← hpos]
  rfl

/-! WRITE_BUFFERs that emit nothing (R146). -/

/-- The two states differ at most in SEQ's position, the value last read and the free choices. -/
def OnlySeqMoved (s u : State) : Prop :=
  ∃ p v script tick, u = { s with pos := p, rdata := v, script := script, tick := tick }

theorem OnlySeqMoved.draw {s u : State} (h : OnlySeqMoved s u) : OnlySeqMoved s u.draw := by
  obtain ⟨p, v, _, _, rfl⟩ := h
  obtain ⟨script, tick, hdraw⟩ := exists_draw { s with pos := p, rdata := v, script := _, tick := _ }
  exact ⟨p, v, script, tick, hdraw⟩

theorem OnlySeqMoved.setPos {s u : State} (h : OnlySeqMoved s u) (p : Pos) : OnlySeqMoved s (u.setPos p) := by
  obtain ⟨_, v, script, tick, rfl⟩ := h
  exact ⟨p, v, script, tick, rfl⟩

theorem OnlySeqMoved.setRdata {s u : State} (h : OnlySeqMoved s u) (v : Word) : OnlySeqMoved s (u.setRdata v) := by
  obtain ⟨p, _, script, tick, rfl⟩ := h
  exact ⟨p, v, script, tick, rfl⟩

/-- With ACTIVITY 0 CTRL has no step (R29, R112). -/
theorem ctrlEnabled_eq_false_of_activity {s : State} (h : s.activity = false) : s.ctrlEnabled = false := by
  by_contra he
  obtain ⟨hen, hfifo, -, hab, -⟩ := (ctrlEnabled_iff s).1 (by simpa using he)
  cases h.symm.trans ((activity_iff s).2 (.inr (.inr ⟨hen, hab, hfifo⟩)))

/-- A running state with ACTIVITY 0 and SEQ at a point: the step is SEQ's. -/
theorem stepper_thread_of_quiet {u : State} {op : Instr} {k : Point} (hrun : u.running) (hact : u.activity = false)
    (hpos : u.pos = .at op k) : u.stepper = some .thread :=
  stepper_thread (ctrlEnabled_eq_false_of_activity hact) (threadEnabled_of_pos hrun hpos)

/-- With ACTIVITY 0 the poll for idle of a WRITE_BUFFER completes it (R141). -/
theorem step_writeBuffer_returns {u : State} {bytes : List Byte} (hrun : u.running) (hact : u.activity = false)
    (hpos : u.pos = .at (.writeBuffer bytes) (.pollIdle 0)) :
    step u = .next ((u.draw.setRdata u.icStatus).setPos .idle) := by
  rw [step_pollIdle (stepper_thread_of_quiet hrun hact hpos) hpos (by simp [accessAt, transfers]), hact,
    if_neg Bool.false_ne_true, enterTransfer_of_none (by simp [transfers])]
  rfl

/-- The premise of a discarded transfer: after an abort, with the controller enabled, nothing is in progress and the FIFO
has room (R34, R104, R146). -/
structure Discards (s : State) : Prop where
  running : s.running
  enabled : s.enabled = true
  aborted : s.txAbort = true
  quiet : s.activity = false
  room : s.tfnf = true

theorem Discards.of_onlySeqMoved {s u : State} (h : Discards s) (hu : OnlySeqMoved s u) : Discards u := by
  obtain ⟨_, _, _, _, rfl⟩ := hu
  exact { h with }

/-- The point of WRITE_BUFFER with `i` of its bytes pushed, before the next poll for room. -/
def writeBufferPoint (bytes : List Byte) (i : Nat) : Point := if i < bytes.length then .pollTfnf 0 i else .pollIdle 0

/-- A discarded push: the poll for room and the push take two steps, which move SEQ to the next byte (R104, R141). -/
theorem Discards.push {s u : State} {bytes : List Byte} {i : Nat} (h : Discards s) (hu : OnlySeqMoved s u)
    (hi : i < bytes.length) (hpos : u.pos = .at (.writeBuffer bytes) (.pollTfnf 0 i)) :
    ∃ v, (∀ n, runSteps (n + 2) u = runSteps n v) ∧ OnlySeqMoved s v ∧
      v.pos = .at (.writeBuffer bytes) (writeBufferPoint bytes (i + 1)) := by
  have hud := h.of_onlySeqMoved hu
  have hpoll := step_pollTfnf (stepper_thread_of_quiet hud.running hud.quiet hpos) hpos
    (by simp [accessAt, transfers, hi])
  rw [if_pos hud.room] at hpoll
  have hw := (hu.draw.setRdata u.icStatus).setPos (.at (.writeBuffer bytes) (.push 0 i))
  have hwd := h.of_onlySeqMoved hw
  have hpush := step_push (stepper_thread_of_quiet hwd.running hwd.quiet rfl) rfl (bytes := bytes) rfl
    (List.getElem?_eq_getElem hi) hwd.enabled (by simp [hud.aborted])
  rw [if_pos hwd.aborted] at hpush
  exact ⟨_, fun n => by rw [runSteps_succ hpoll, runSteps_succ hpush]; rfl, hw.draw.setPos _, rfl⟩

/-- A transfer after an abort discards its pushes and returns (R146). -/
theorem Discards.returns {s : State} {bytes : List Byte} (h : Discards s) {due : Nat} :
    ∀ {i : Nat} {u : State}, i + due = bytes.length → OnlySeqMoved s u →
    u.pos = .at (.writeBuffer bytes) (writeBufferPoint bytes i) →
    ∃ t, runSteps (2 * due + 1) u = .next t ∧ OnlySeqMoved s t ∧ t.pos = .idle := by
  induction due with
  | zero =>
    intro i u hi hu hpos
    rw [writeBufferPoint, if_neg (by omega)] at hpos
    have hud := h.of_onlySeqMoved hu
    exact ⟨_, runSteps_succ (step_writeBuffer_returns hud.running hud.quiet hpos) 0,
      (hu.draw.setRdata u.icStatus).setPos .idle, rfl⟩
  | succ due ih =>
    intro i u hi hu hpos
    rw [writeBufferPoint, if_pos (by omega)] at hpos
    obtain ⟨v, hrun, hv, hvpos⟩ := h.push hu (by omega) hpos
    rw [show 2 * (due + 1) + 1 = 2 * due + 1 + 2 by omega, hrun]
    exact ih (by omega) hv hvpos

/-- Taking WRITE_BUFFER with ACTIVITY 0 (R141). -/
theorem step_takes_writeBuffer {s : State} {bytes : List Byte} {rest : Program} (hrun : s.running)
    (hphase : s.phase = .ready) (hpos : s.pos = .idle) (hprog : s.program = .request 0x0001#16 bytes rest)
    (hact : s.activity = false) :
    step s = .next ((s.draw.setProgram rest).setPos (.at (.writeBuffer bytes) (writeBufferPoint bytes 0))) := by
  have hs := stepper_thread (ctrlEnabled_eq_false_of_activity hact) (threadEnabled_of_request hrun hprog)
  rw [step_takes (op := .writeBuffer bytes) hs hpos hphase hprog rfl (fun _ _ => Instr.noConfusion)
    fun _ => Instr.noConfusion]
  cases bytes with
  | nil => rw [enterTransfer_of_nil rfl]; rfl
  | cons b bytes => rw [enterTransfer_of_cons rfl]; rfl

theorem onlySeqMoved_setProgram_draw (s : State) (rest : Program) :
    OnlySeqMoved (s.setProgram rest) (s.draw.setProgram rest) := by
  obtain ⟨script, tick, hdraw⟩ := exists_draw s
  exact ⟨s.pos, s.rdata, script, tick, by rw [hdraw]; rfl⟩

/-- After an abort nothing is in progress (R34), so pushes are discarded. -/
theorem discards_of_inv {s : State} (hinv : s.Inv) (hrun : s.running) (hen : s.enabled = true) (hab : s.txAbort = true)
    (hdepth : 1 ≤ s.params.txFifoDepth) : Discards s := by
  obtain ⟨hfifo, hbus, hheld⟩ := hinv.abortQuiet hab
  exact ⟨hrun, hen, hab, by simp [State.activity, hfifo, hbus, hheld], by simp [State.tfnf, hfifo]; omega⟩

/-- Settles O38: CTRL has no step, SEQ's steps change its position and the value read alone, and the position is IDLE
again. -/
theorem discardedAndEmptyTransfersEmitNothing : Obligations.DiscardedAndEmptyTransfersEmitNothing := by
  intro s bytes rest hrun hphase hpos hprog
  refine ⟨fun hinv hen hab hdepth => ?_, fun hempty hact => ?_⟩
  · have h := discards_of_inv hinv hrun hen hab hdepth
    have hrest : Discards (s.setProgram rest) := { h with }
    obtain ⟨t, ht, ⟨p, v, script, tick, rfl⟩, hidle⟩ := hrest.returns (due := bytes.length) (Nat.zero_add _)
      ((onlySeqMoved_setProgram_draw s rest).setPos (.at (.writeBuffer bytes) (writeBufferPoint bytes 0))) rfl
    refine ⟨v, script, tick, ?_⟩
    rw [runSteps_succ (step_takes_writeBuffer hrun hphase hpos hprog h.quiet), ht, hpos, ← hidle]
    rfl
  · subst hempty
    obtain ⟨script, tick, hdraw⟩ := exists_draw s
    have htaken := step_takes_writeBuffer hrun hphase hpos hprog hact
    rw [hdraw] at htaken
    have hreturns := step_writeBuffer_returns (bytes := []) (u := { s with
      program := rest, pos := .at (.writeBuffer []) (.pollIdle 0), script := script, tick := tick }) hrun hact rfl
    obtain ⟨script', tick', hdraw'⟩ := exists_draw { s with
      program := rest, pos := .at (.writeBuffer []) (.pollIdle 0), script := script, tick := tick }
    refine ⟨script', tick', ?_⟩
    rw [hdraw'] at hreturns
    exact (runSteps_succ htaken 1).trans ((runSteps_succ hreturns 0).trans (by rw [hpos]; rfl))

end Sys2Proof.Machine
end

section
/-! PROOF. The transfers of the protocol operations: their framing (R160 to R163, R167), and what the transfers of a
framebuffer carry (R166, R173). -/

namespace Sys2Proof.Machine

/-- A payload framed as R160 has it: a command's or the data's control byte, and at least one byte more. -/
def Framed (bytes : List Byte) : Prop := ∃ c d rest, bytes = c :: d :: rest ∧ (c = cbCmd ∨ c = cbData)

theorem framed_of_mem_commandTransfers {l bytes : List Byte} (h : bytes ∈ commandTransfers l) : Framed bytes := by
  obtain ⟨c, -, rfl⟩ := List.mem_map.1 h
  exact ⟨cbCmd, c, [], rfl, .inl rfl⟩

/-- The transfers of SEND_FRAMEBUFFER after the address table: one burst, or one transfer a byte (R167). -/
def framebufferData (p : Params) (f : List Byte) : List (List Byte) :=
  if p.fbBurst then [cbData :: f] else f.map dataTransfer

theorem transfers_sendFramebuffer (p : Params) (f : List Byte) :
    transfers p (.sendFramebuffer f) = commandTransfers addrTable ++ framebufferData p f := rfl

theorem framebufferData_of_burst {p : Params} (h : p.fbBurst = true) (f : List Byte) :
    framebufferData p f = [cbData :: f] := if_pos h

theorem framebufferData_of_single {p : Params} (h : p.fbBurst = false) (f : List Byte) :
    framebufferData p f = f.map dataTransfer := if_neg (by simp [h])

theorem head?_of_mem_framebufferData {p : Params} {f bytes : List Byte} (h : bytes ∈ framebufferData p f) :
    bytes.head? = some cbData := by
  cases hb : p.fbBurst with
  | true =>
    rw [framebufferData_of_burst hb, List.mem_singleton] at h
    rw [h]; rfl
  | false =>
    rw [framebufferData_of_single hb] at h
    obtain ⟨b, -, rfl⟩ := List.mem_map.1 h
    rfl

/-- A burst carries a byte because the frame is not empty. -/
theorem framed_of_mem_framebufferData {p : Params} {f bytes : List Byte} (hf : f ≠ [])
    (h : bytes ∈ framebufferData p f) : Framed bytes := by
  cases hb : p.fbBurst with
  | true =>
    rw [framebufferData_of_burst hb, List.mem_singleton] at h
    obtain ⟨b, rest, rfl⟩ := List.exists_cons_of_ne_nil hf
    exact ⟨cbData, b, rest, h, .inr rfl⟩
  | false =>
    rw [framebufferData_of_single hb] at h
    obtain ⟨b, -, rfl⟩ := List.mem_map.1 h
    exact ⟨cbData, b, [], rfl, .inr rfl⟩

/-- Settles O29: every transfer of a protocol operation is a command transfer or one of a framebuffer's data transfers. -/
theorem protocolTransfersAreFramed : Obligations.ProtocolTransfersAreFramed := by
  intro p b l f
  refine ⟨rfl, rfl, rfl, fun hf op hop bytes hbytes => ?_⟩
  simp only [List.mem_cons, List.not_mem_nil, or_false] at hop
  obtain rfl | rfl | rfl | rfl := hop
  · exact framed_of_mem_commandTransfers (l := [b]) hbytes
  · exact framed_of_mem_commandTransfers hbytes
  · exact framed_of_mem_commandTransfers hbytes
  · have hne : f ≠ [] := List.ne_nil_of_length_pos (by omega)
    rw [transfers_sendFramebuffer, List.mem_append] at hbytes
    exact hbytes.elim framed_of_mem_commandTransfers (framed_of_mem_framebufferData hne)

/-! The data-framed bytes, the transfers and the payload bytes of a framebuffer, part by part (R173). -/

theorem dataFramedBytes_append (ts us : List (List Byte)) :
    dataFramedBytes (ts ++ us) = dataFramedBytes ts ++ dataFramedBytes us := List.flatMap_append

theorem dataFramedBytes_commandTransfers (l : List Byte) : dataFramedBytes (commandTransfers l) = [] := by
  induction l with
  | nil => rfl
  | cons c l ih => exact ih

theorem dataFramedBytes_map_dataTransfer (f : List Byte) : dataFramedBytes (f.map dataTransfer) = f := by
  induction f with
  | nil => rfl
  | cons b f ih => exact congrArg (b :: ·) ih

theorem dataFramedBytes_framebufferData (p : Params) (f : List Byte) : dataFramedBytes (framebufferData p f) = f := by
  cases hb : p.fbBurst with
  | true =>
    rw [framebufferData_of_burst hb]
    exact List.append_nil f
  | false =>
    rw [framebufferData_of_single hb]
    exact dataFramedBytes_map_dataTransfer f

theorem length_framebufferData (p : Params) (f : List Byte) :
    (framebufferData p f).length = if p.fbBurst then 1 else f.length := by
  cases hb : p.fbBurst with
  | true => rw [framebufferData_of_burst hb]; rfl
  | false => rw [framebufferData_of_single hb]; exact List.length_map _

theorem payload_framebufferData (p : Params) (f : List Byte) :
    ((framebufferData p f).map List.length).sum = if p.fbBurst then f.length + 1 else 2 * f.length := by
  cases hb : p.fbBurst with
  | true => simp [framebufferData_of_burst hb]
  | false =>
    have hlen : List.length ∘ dataTransfer = fun _ => 2 := rfl
    simp [framebufferData_of_single hb, hlen, Nat.mul_comm]

/-- Settles O30: the address table's part carries no data and counts 6 transfers and 12 bytes; the rest is the frame. -/
theorem framebufferTransfersCarryTheFrame : Obligations.FramebufferTransfersCarryTheFrame := by
  intro p f hf
  have hcount : (commandTransfers addrTable).length = 6 := rfl
  have hpayload : ((commandTransfers addrTable).map List.length).sum = 12 := rfl
  refine ⟨framebufferData p f, rfl, fun _ => head?_of_mem_framebufferData, ?_, ?_, ?_⟩ <;>
    rw [transfers_sendFramebuffer]
  · rw [dataFramedBytes_append, dataFramedBytes_commandTransfers, dataFramedBytes_framebufferData, List.nil_append]
  · rw [List.length_append, hcount, length_framebufferData, hf]
    split <;> rfl
  · rw [List.map_append, List.sum_append, hpayload, payload_framebufferData, hf]
    split <;> rfl

end Sys2Proof.Machine
end

section
/-! PROOF. How the protocol operations are taken and where they stop (R161, R162, R163, R167), and CALLER's loops and raw
programs (R170, R88). -/

namespace Sys2Proof.Machine

/-- An operation with no transfer to perform completes at once, in any phase (R162, R163). -/
theorem startTransfers_of_no_transfers {op : Instr} {s : State} (h : transfers s.params op = []) :
    startTransfers op s = .next (complete op s) :=
  (if_neg (by simp [h])).trans (congrArg _ (enterTransfer_of_none (by simp [h])))

/-- In phase READY an operation whose first transfer has a byte stands at that transfer's first poll (R141). -/
theorem startTransfers_of_first {op : Instr} {s : State} {b : Byte} {bytes : List Byte} (hphase : s.phase = .ready)
    (h : (transfers s.params op)[0]? = some (b :: bytes)) :
    startTransfers op s = .next { s with pos := .at op (.pollTfnf 0 0) } :=
  (startTransfers_of_ready hphase).trans (congrArg _ (enterTransfer_of_cons h))

theorem startTransfers_of_uninit {op : Instr} {s : State} (hphase : s.phase = .uninit)
    (h : transfers s.params op ≠ []) : startTransfers op s = .fault .fNotInitialized :=
  if_pos ⟨h, hphase⟩

theorem commandTransfers_eq_nil_iff {l : List Byte} : commandTransfers l = [] ↔ l = [] := List.map_eq_nil_iff

/-- A command list with an element is taken at its first command, whichever operation performs it (R162, R163). -/
theorem startTransfers_of_commands {op : Instr} {s : State} {l : List Byte} (hphase : s.phase = .ready)
    (h : transfers s.params op = commandTransfers l) (hl : l ≠ []) :
    startTransfers op s = .next { s with pos := .at op (.pollTfnf 0 0) } := by
  obtain ⟨c, rest, rfl⟩ := List.exists_cons_of_ne_nil hl
  exact startTransfers_of_first hphase (b := cbCmd) (bytes := [c]) (by rw [h]; rfl)

theorem exec_sendFramebuffer_of_length {f : List Byte} (hf : f.length = 1024) (s : State) :
    exec (.sendFramebuffer f) s = startTransfers (.sendFramebuffer f) s := if_pos hf

/-- Settles O25: in phase READY each operation is taken at its first transfer, or completes when it has none. -/
theorem protocolOperationsAreTakenWhenReady : Obligations.ProtocolOperationsAreTakenWhenReady := by
  intro s b l f
  refine ⟨fun hphase => startTransfers_of_first hphase rfl, fun hphase => startTransfers_of_commands hphase rfl,
    startTransfers_of_no_transfers (op := .sendCommandList []) rfl,
    fun hphase => startTransfers_of_commands hphase rfl,
    fun _ htable => startTransfers_of_no_transfers (commandTransfers_eq_nil_iff.2 htable), fun hphase hf => ?_⟩
  exact (exec_sendFramebuffer_of_length hf s).trans (startTransfers_of_first hphase rfl)

/-- Settles O26: an operation with a transfer faults in phase UNINIT; the length of a frame is checked before. -/
theorem protocolOperationsStopByRule : Obligations.ProtocolOperationsStopByRule := by
  intro s b l f
  refine ⟨fun hphase => startTransfers_of_uninit hphase (List.cons_ne_nil _ _),
    fun hphase hl => startTransfers_of_uninit hphase (mt commandTransfers_eq_nil_iff.1 hl),
    fun hphase htable => startTransfers_of_uninit hphase (mt commandTransfers_eq_nil_iff.1 htable),
    fun hf => if_neg hf, fun hphase hf => ?_⟩
  exact (exec_sendFramebuffer_of_length hf s).trans
    (startTransfers_of_uninit hphase (List.cons_ne_nil _ _))

/-- With SEQ idle the thread's step is CALLER's. -/
theorem step_of_caller {s : State} (hs : s.stepper = some .thread) (hpos : s.pos = .idle) :
    step s = recordMark s.draw (callerStep s.draw) := by
  rw [step_of_thread hs, threadStep, State.draw_pos, hpos]

/-- Settles O55: CALLER's step, by the statement at the head of its program. -/
theorem callerLoopsUnrollByTheirRule : Obligations.CallerLoopsUnrollByTheirRule := by
  intro s n body rest accesses hs hpos
  rw [step_of_caller hs hpos, callerStep, State.draw_program, ← rawPos_eq]
  refine ⟨fun hprog => ?_, fun hprog => ?_, fun hprog => ?_, fun hprog => ?_⟩ <;> rw [hprog] <;> rfl

end Sys2Proof.Machine
end

section
/-! PROOF. The step that stops the run (R205): the mark it records is its only effect. -/

namespace Sys2Proof.Machine

/-- A refusal mark in the state after a step is the refusal of the thread's step (R202, R205). -/
theorem threadStep_of_step_refused {s t : State} {q : Refusal} (h : step s = .next t) (hq : t.refused = some q) :
    threadStep s.draw = .refused q := by
  obtain ⟨⟨-, hrun⟩, ⟨-, -, rfl⟩ | ⟨-, -, h⟩ | ⟨-, -, f, -, rfl⟩ | ⟨-, -, r, hr, rfl⟩ | ⟨-, rfl⟩⟩ := step_cases h
  · simp [hrun] at hq
  · obtain ⟨hrefused, -, -⟩ := threadStep_keeps h
    simp [hrefused, hrun] at hq
  · simp [hrun] at hq
  · cases hq
    exact hr
  · simp [hrun] at hq

/-- A step that leaves a mark is the thread's: CTRL and an idle step record none. -/
theorem step_eq_recordMark_of_marked {s t : State} (h : step s = .next t)
    (hmark : t.fault ≠ none ∨ t.refused ≠ none) : step s = recordMark s.draw (threadStep s.draw) := by
  obtain ⟨⟨hfault, hrefused⟩, ⟨-, -, rfl⟩ | ⟨hs, -⟩ | ⟨hs, -⟩ | ⟨hs, -⟩ | ⟨-, rfl⟩⟩ := step_cases h
  · simp [hfault, hrefused] at hmark
  · exact step_of_thread hs
  · exact step_of_thread hs
  · exact step_of_thread hs
  · simp [hfault, hrefused] at hmark

/-- Settles O14: a mark after a step is the stop of the thread's step, which `recordMark` puts on the state before it. -/
theorem faultingStepHasNoOtherEffect : Obligations.FaultingStepHasNoOtherEffect := by
  intro s t h
  refine ⟨fun f hf => ?_, fun q hq => ?_⟩
  · have hrecord := step_eq_recordMark_of_marked h (.inl (by simp [hf]))
    rw [h, threadStep_of_step_fault h hf] at hrecord
    exact Host.Outcome.next.inj hrecord
  · have hrecord := step_eq_recordMark_of_marked h (.inr (by simp [hq]))
    rw [h, threadStep_of_step_refused h hq] at hrecord
    exact Host.Outcome.next.inj hrecord

end Sys2Proof.Machine
end

section
/-! PROOF. The rules of the panel observer: one display-data byte in a writable window, field by field (R214), and the bus
events by the observer's place in a transaction (R210, R212). -/

namespace Sys2Proof.Machine

@[simp] theorem Panel.store_displayOn (p : Panel) (d : Byte) : (p.store d).displayOn = p.displayOn := by
  unfold Panel.store; split <;> rfl

@[simp] theorem Panel.store_mode (p : Panel) (d : Byte) : (p.store d).mode = p.mode := by
  unfold Panel.store; split <;> rfl

@[simp] theorem Panel.store_colStart (p : Panel) (d : Byte) : (p.store d).colStart = p.colStart := by
  unfold Panel.store; split <;> rfl

@[simp] theorem Panel.store_colEnd (p : Panel) (d : Byte) : (p.store d).colEnd = p.colEnd := by
  unfold Panel.store; split <;> rfl

@[simp] theorem Panel.store_pageStart (p : Panel) (d : Byte) : (p.store d).pageStart = p.pageStart := by
  unfold Panel.store; split <;> rfl

@[simp] theorem Panel.store_pageEnd (p : Panel) (d : Byte) : (p.store d).pageEnd = p.pageEnd := by
  unfold Panel.store; split <;> rfl

@[simp] theorem Panel.store_parse (p : Panel) (d : Byte) : (p.store d).parse = p.parse := by
  unfold Panel.store; split <;> rfl

@[simp] theorem Panel.store_ram (p : Panel) (d : Byte) :
    (p.store d).ram = writeByte p.ram (ramAddress p.page p.col) d := by
  unfold Panel.store; split <;> rfl

theorem Panel.store_col (p : Panel) (d : Byte) :
    (p.store d).col = if p.col = p.colEnd then p.colStart else p.col + 1 := by
  unfold Panel.store; split <;> rfl

theorem Panel.store_page (p : Panel) (d : Byte) :
    (p.store d).page =
      if p.col = p.colEnd then (if p.page = p.pageEnd then p.pageStart else p.page + 1) else p.page := by
  unfold Panel.store; split <;> rfl

theorem Panel.writable_iff (p : Panel) :
    p.writable = true ↔ p.mode = .horizontal ∧ p.colStart ≤ p.colEnd ∧ p.pageStart ≤ p.pageEnd := by
  simp [Panel.writable, and_assoc]

@[simp] theorem Panel.store_writable (p : Panel) (d : Byte) : (p.store d).writable = p.writable := by
  simp [Panel.writable]

/-! The events, by the observer's place in the transaction (R210, R212, log 14). -/

theorem Panel.event_start_outside {p : Panel} (h : p.parse = .outside) :
    p.event .start = .known { p with parse := .address } := by
  simp [Panel.event, h]

theorem Panel.event_start_inside {p : Panel} (h : p.parse ≠ .outside) : p.event .start = .known p := by
  simp [Panel.event, h]

/-- The first address of a transaction says whether the observer reads it. -/
theorem Panel.event_addr_first {p : Panel} (h : p.parse = .address) (a : BitVec 7) (rw : Bool) (answer : Ack) :
    p.event (.addr a rw answer) = .known { p with parse :=
      if a = targetAddr ∧ rw = false ∧ answer = .ack then .control else .ignored } := by
  simp [Panel.event, h]

theorem Panel.event_addr_later {p : Panel} (h : p.parse ≠ .address) (a : BitVec 7) (rw : Bool) (answer : Ack) :
    p.event (.addr a rw answer) = .known p := by
  simp [Panel.event, h]

theorem Panel.event_data_unread {p : Panel} (h : p.parse.reading = false) (b : Byte) (answer : Ack) :
    p.event (.data b answer) = .known p := by
  simp [Panel.event, h]

theorem Panel.event_data_ack {p : Panel} (h : p.parse.reading = true) (b : Byte) :
    p.event (.data b .ack) = p.payloadByte b := by
  simp [Panel.event, h]

theorem Panel.event_data_nack {p : Panel} (h : p.parse.reading = true) (b : Byte) :
    p.event (.data b .nack) = .unknown := by
  simp [Panel.event, h]

end Sys2Proof.Machine
end

section
/-! PROOF. The ranges of R211, kept byte by byte and event by event. -/

namespace Sys2Proof.Machine

theorem columnArg_lt (b : Byte) : columnArg b < panelColumns := (b.extractLsb' 0 7).isLt

theorem pageArg_lt (b : Byte) : pageArg b < panelPages := (b.extractLsb' 0 3).isLt

/-- A column and a page in range have a cell of the display RAM (R213). -/
theorem ramAddress_lt {page col : Nat} (hp : page < panelPages) (hc : col < panelColumns) :
    ramAddress page col < panelColumns * panelPages := by
  simp only [ramAddress, panelColumns, panelPages] at *
  omega

theorem Observer.ok_unknown : Observer.unknown.Ok := fun _ h => Observer.noConfusion h

theorem Panel.Ok.known {p : Panel} (h : p.Ok) : (Observer.known p).Ok := fun _ hq => Observer.known.inj hq ▸ h

/-- The ranges do not speak of the observer's place in a transaction. -/
theorem Panel.Ok.withParse {p : Panel} (h : p.Ok) (place : PanelParse) : Panel.Ok { p with parse := place } := { h with }

/-- The ranges do not speak of a command that waits for arguments. -/
theorem Panel.Ok.withPending {p : Panel} (h : p.Ok) (waiting : Option (Byte × List Byte)) :
    Panel.Ok { p with pending := waiting } := { h with }

/-- A display-data byte keeps the ranges: a pointer moves up only below the end of its window, else to the start (R214). -/
theorem Panel.Ok.store {p : Panel} (h : p.Ok) (hw : p.writable = true) (d : Byte) : (p.store d).Ok := by
  obtain ⟨-, hcols, hpages⟩ := p.writable_iff.1 hw
  have hcol := h.colWindow hcols
  have hpage := h.pageWindow hpages
  have hcolLt := h.colEnd
  have hpageLt := h.pageEnd
  have hcolNext : (p.store d).col ≤ p.colEnd := by rw [Panel.store_col]; split_ifs <;> omega
  have hpageNext : (p.store d).page ≤ p.pageEnd := by rw [Panel.store_page]; split_ifs <;> omega
  exact {
    colStart := by simpa using h.colStart
    colEnd := by simpa using h.colEnd
    col := hcolNext.trans_lt hcolLt
    pageStart := by simpa using h.pageStart
    pageEnd := by simpa using h.pageEnd
    page := hpageNext.trans_lt hpageLt
    colWindow := fun _ => by simpa using hcolNext
    pageWindow := fun _ => by simpa using hpageNext
    ram := by simpa using writeByte_ok h.ram _ d
    cells := fun c hc => by
      rw [Panel.store_ram] at hc
      rcases mem_writeByte hc with rfl | hc
      · exact ramAddress_lt h.page h.col
      · exact h.cells c hc }

theorem Panel.Ok.dataByte {p : Panel} (h : p.Ok) (d : Byte) : (p.dataByte d).Ok := by
  unfold Panel.dataByte
  split_ifs with hw
  · exact (h.store hw d).known
  · exact Observer.ok_unknown

/-- A command keeps the ranges: a window command sets the pointer to the window's start (R215). -/
theorem Panel.Ok.perform {p : Panel} (h : p.Ok) (c : Byte) (args : List Byte) : (p.perform c args).Ok := by
  unfold Panel.perform
  split_ifs
  · exact Panel.Ok.known { h with }
  · exact Panel.Ok.known { h with }
  · split
    · split
      · exact Panel.Ok.known { h with }
      · exact Observer.ok_unknown
    · exact Observer.ok_unknown
  · split
    · next a b =>
      exact Panel.Ok.known { h with
        colStart := columnArg_lt a, colEnd := columnArg_lt b, col := columnArg_lt a, colWindow := id }
    · exact Observer.ok_unknown
  · split
    · next a b =>
      exact Panel.Ok.known { h with
        pageStart := pageArg_lt a, pageEnd := pageArg_lt b, page := pageArg_lt a, pageWindow := id }
    · exact Observer.ok_unknown
  · exact h.known

theorem Panel.Ok.collect {p : Panel} (h : p.Ok) (c : Byte) (args : List Byte) : (p.collect c args).Ok := by
  unfold Panel.collect
  split
  · exact Observer.ok_unknown
  · split_ifs
    · exact (h.withPending _).known
    · exact (h.withPending none).perform c args

theorem Panel.Ok.commandByte {p : Panel} (h : p.Ok) (b : Byte) : (p.commandByte b).Ok := by
  unfold Panel.commandByte
  split
  · exact h.collect _ _
  · exact h.collect _ _

theorem Panel.Ok.controlByte {p : Panel} (h : p.Ok) (x : Byte) : (p.controlByte x).Ok := by
  unfold Panel.controlByte
  split_ifs
  · exact (h.withParse _).known
  · exact (h.withParse _).known
  · exact Observer.ok_unknown

theorem Panel.Ok.kindByte {p : Panel} (h : p.Ok) (dc : Bool) (b : Byte) : (p.kindByte dc b).Ok := by
  cases dc with
  | true => exact h.dataByte b
  | false => exact h.commandByte b

theorem Panel.Ok.payloadByte {p : Panel} (h : p.Ok) (b : Byte) : (p.payloadByte b).Ok := by
  unfold Panel.payloadByte
  split
  · exact h.known
  · exact h.known
  · exact h.known
  · exact h.controlByte b
  · exact (h.withParse .control).kindByte _ b
  · exact h.kindByte _ b

theorem Panel.Ok.event {p : Panel} (h : p.Ok) (e : BusEvent) : (p.event e).Ok := by
  cases e with
  | start => exact (h.withParse _).known
  | restart => exact h.known
  | stop => exact (h.withParse _).known
  | addr a rw answer => exact (h.withParse _).known
  | data b answer =>
    cases hread : p.parse.reading with
    | false => exact (Panel.event_data_unread hread b answer).symm ▸ h.known
    | true =>
      cases answer with
      | ack => exact (Panel.event_data_ack hread b).symm ▸ h.payloadByte b
      | nack => exact (Panel.event_data_nack hread b).symm ▸ Observer.ok_unknown

/-- Settles O58: the ranges of a known observer, event by event; an unknown one has no ranges to keep. -/
theorem panelRangesAreKept : Obligations.PanelRangesAreKept := by
  intro o e h
  cases o with
  | known p => exact (h p rfl).event e
  | unknown => exact Observer.ok_unknown

end Sys2Proof.Machine
end

section
/-! PROOF. What the observer does not read (R210, R216): a transaction addressed elsewhere, and anything once it is
unknown. -/

namespace Sys2Proof.Machine

@[simp] theorem observeFrom_unknown (trace : List BusEvent) : observeFrom .unknown trace = .unknown := by
  induction trace with
  | nil => rfl
  | cons e trace ih => exact ih

/-- In a transaction that the observer does not read, or not yet, only its STOP and its first address change the
observer. -/
theorem Panel.event_of_not_reading {p : Panel} (hout : p.parse ≠ .outside) (hread : p.parse.reading = false) {e : BusEvent}
    (hstop : e ≠ .stop) (haddr : p.parse = .address → ∀ a rw answer, e ≠ .addr a rw answer) : p.event e = .known p := by
  cases e with
  | start => exact Panel.event_start_inside hout
  | restart => rfl
  | stop => exact absurd rfl hstop
  | addr a rw answer => exact Panel.event_addr_later (fun hp => haddr hp a rw answer rfl) a rw answer
  | data b answer => exact Panel.event_data_unread hread b answer

theorem observeFrom_of_ignored {p : Panel} (hp : p.parse = .ignored) {events : List BusEvent} (hstop : .stop ∉ events) :
    observeFrom (.known p) events = .known p := by
  induction events with
  | nil => rfl
  | cons e events ih =>
    rw [List.mem_cons, not_or] at hstop
    obtain ⟨he, hrest⟩ := hstop
    have hevent : p.event e = .known p :=
      Panel.event_of_not_reading (by simp [hp]) (by rw [hp]; rfl) (Ne.symm he) (by simp [hp])
    rw [observeFrom_cons, Observer.event_known, hevent, ih hrest]

/-- Up to its STOP, a transaction addressed elsewhere changes only the observer's place in it. -/
theorem observeFrom_elsewhere {p : Panel} (hp : p.parse = .address) {events : List BusEvent} (hstop : .stop ∉ events)
    (h : addressedElsewhere events) : ∃ place, observeFrom (.known p) events = .known { p with parse := place } := by
  induction events with
  | nil => exact ⟨p.parse, rfl⟩
  | cons e events ih =>
    rw [List.mem_cons, not_or] at hstop
    obtain ⟨he, hrest⟩ := hstop
    rw [observeFrom_cons, Observer.event_known]
    cases e with
    | addr a rw answer =>
      rw [Panel.event_addr_first hp, if_neg h]
      exact ⟨.ignored, observeFrom_of_ignored rfl hrest⟩
    | start | restart | stop | data b answer =>
      rw [Panel.event_of_not_reading (by simp [hp]) (by rw [hp]; rfl) (Ne.symm he) (by simp)]
      exact ih hrest h

/-- Settles O59: START and STOP of a transaction addressed elsewhere cancel out; an unknown observer says nothing. -/
theorem observerReadsOnlyItsSlaveAndStaysUnknown : Obligations.ObserverReadsOnlyItsSlaveAndStaysUnknown := by
  refine ⟨fun p events hp hstop h => ?_, fun o trace ho => ?_⟩
  · obtain ⟨place, hplace⟩ := observeFrom_elsewhere (p := { p with parse := .address }) rfl hstop h
    rw [List.cons_append, observeFrom_cons, Observer.event_known, Panel.event_start_outside hp, observeFrom_append,
      hplace]
    exact congrArg (fun q => Observer.known { p with parse := q }) hp.symm
  · cases o with
    | known p => cases ho
    | unknown =>
      rw [observeFrom_unknown]
      exact ⟨rfl, fun _ _ => rfl, rfl, fun _ _ => ⟨rfl, rfl⟩⟩

end Sys2Proof.Machine
end

section
/-! PROOF. The panel under the transactions of the two protocol operations (R163, R167): the bring-up and the address table
set a full horizontal window, in which a frame fills the display RAM in raster order (R214, R217). -/

namespace Sys2Proof.Machine

theorem transactionsEvents_append (a : BitVec 7) (ts us : List (List Byte)) :
    transactionsEvents a (ts ++ us) = transactionsEvents a ts ++ transactionsEvents a us := List.flatMap_append

theorem transactionsEvents_cons (a : BitVec 7) (t : List Byte) (ts : List (List Byte)) :
    transactionsEvents a (t :: ts) = transactionEvents a t ++ transactionsEvents a ts := rfl

/-! One data transaction (R160, R212): a control byte, then display data up to the STOP. -/

/-- The START and the acknowledged address of the panel open a transaction that the observer reads (R210). -/
theorem observeFrom_opening {p : Panel} (hp : p.parse = .outside) :
    observeFrom (.known p) [.start, .addr targetAddr false .ack] = .known { p with parse := .control } := by
  rw [observeFrom_cons, Observer.event_known, Panel.event_start_outside hp, observeFrom_cons, Observer.event_known,
    Panel.event_addr_first rfl, if_pos ⟨rfl, rfl, rfl⟩, observeFrom_nil]

/-- The control byte of a data transfer announces display data up to the STOP (R77, R212). -/
theorem Panel.event_cbData (p : Panel) :
    ({ p with parse := .control } : Panel).event (.data cbData .ack) = .known { p with parse := .rest true } := rfl

/-- Up to its display data, a data transaction only moves the observer's place in it. -/
theorem observeFrom_dataTransaction {p : Panel} (hp : p.parse = .outside) (bytes : List Byte) :
    observeFrom (.known p) (transactionEvents targetAddr (cbData :: bytes)) =
      (observeFrom (.known { p with parse := .rest true }) (bytes.map (.data · .ack))).event .stop := by
  have hevents : transactionEvents targetAddr (cbData :: bytes) =
      [.start, .addr targetAddr false .ack] ++ (.data cbData .ack :: (bytes.map (.data · .ack) ++ [.stop])) := rfl
  rw [hevents, observeFrom_append, observeFrom_opening hp, observeFrom_cons, Observer.event_known, Panel.event_cbData,
    observeFrom_append, observeFrom_cons, observeFrom_nil]

/-- After a control byte of display data every acknowledged byte is display data (R212). -/
theorem Panel.event_displayData {p : Panel} (hp : p.parse = .rest true) (b : Byte) :
    p.event (.data b .ack) = p.dataByte b := by
  rw [Panel.event_data_ack (by rw [hp]; rfl), Panel.payloadByte, hp]
  rfl

theorem Panel.dataByte_writable {p : Panel} (hw : p.writable = true) (d : Byte) : p.dataByte d = .known (p.store d) :=
  if_pos hw

theorem Panel.dataByte_not_writable {p : Panel} (hw : p.writable = false) (d : Byte) : p.dataByte d = .unknown :=
  if_neg (by simp [hw])

/-- In a writable window each display-data byte is stored (R214). -/
theorem observeFrom_data_writable {p : Panel} (hp : p.parse = .rest true) (hw : p.writable = true) (bytes : List Byte) :
    observeFrom (.known p) (bytes.map (.data · .ack)) = .known (bytes.foldl Panel.store p) := by
  induction bytes generalizing p with
  | nil => rfl
  | cons b bytes ih =>
    rw [List.map_cons, observeFrom_cons, Observer.event_known, Panel.event_displayData hp, Panel.dataByte_writable hw]
    exact ih (by simpa using hp) (by simpa using hw)

/-- In a window that is not writable the first display-data byte makes the observer unknown (R214, R216). -/
theorem observeFrom_data_not_writable {p : Panel} (hp : p.parse = .rest true) (hw : p.writable = false) (b : Byte)
    (bytes : List Byte) : observeFrom (.known p) ((b :: bytes).map (.data · .ack)) = .unknown := by
  rw [List.map_cons, observeFrom_cons, Observer.event_known, Panel.event_displayData hp, Panel.dataByte_not_writable hw,
    observeFrom_unknown]

/-- Storing data does not depend on the place in the transaction. -/
theorem foldl_store_withParse (p : Panel) (place : PanelParse) (bytes : List Byte) :
    bytes.foldl Panel.store { p with parse := place } = { bytes.foldl Panel.store p with parse := place } := by
  induction bytes generalizing p with
  | nil => rfl
  | cons b bytes ih =>
    have hstore : ({ p with parse := place } : Panel).store b = { p.store b with parse := place } := by
      unfold Panel.store
      split <;> rfl
    rw [List.foldl_cons, List.foldl_cons, hstore, ih]

theorem foldl_store_parse (p : Panel) (bytes : List Byte) : (bytes.foldl Panel.store p).parse = p.parse := by
  induction bytes generalizing p with
  | nil => rfl
  | cons b bytes ih => rw [List.foldl_cons, ih, Panel.store_parse]

/-- A data transaction stores its bytes, and leaves the observer outside a transaction again. -/
theorem observeFrom_dataTransaction_writable {p : Panel} (hp : p.parse = .outside) (hw : p.writable = true)
    (bytes : List Byte) : observeFrom (.known p) (transactionEvents targetAddr (cbData :: bytes)) =
      .known (bytes.foldl Panel.store p) := by
  rw [observeFrom_dataTransaction hp, observeFrom_data_writable (p := { p with parse := .rest true }) rfl hw,
    foldl_store_withParse]
  exact congrArg (fun q => Observer.known { bytes.foldl Panel.store p with parse := q })
    ((foldl_store_parse p bytes).trans hp).symm

/-! The data of SEND_FRAMEBUFFER, the same under both framings (R167). -/

theorem observeFrom_framebufferData {p : Panel} (q : Params) (hp : p.parse = .outside) (hw : p.writable = true)
    (f : List Byte) : observeFrom (.known p) (transactionsEvents targetAddr (framebufferData q f)) =
      .known (f.foldl Panel.store p) := by
  cases hb : q.fbBurst with
  | true =>
    rw [framebufferData_of_burst hb, transactionsEvents_cons, observeFrom_append,
      observeFrom_dataTransaction_writable hp hw]
    rfl
  | false =>
    rw [framebufferData_of_single hb]
    induction f generalizing p with
    | nil => rfl
    | cons b f ih =>
      rw [List.map_cons, transactionsEvents_cons, observeFrom_append, dataTransfer,
        observeFrom_dataTransaction_writable hp hw]
      exact ih (by simpa using hp) (by simpa using hw)

/-- Both framings begin with a data transaction that carries a byte of the frame. -/
theorem framebufferData_eq_cons (q : Params) {f : List Byte} (hf : f ≠ []) :
    ∃ b bytes ts, framebufferData q f = (cbData :: b :: bytes) :: ts := by
  obtain ⟨b, rest, rfl⟩ := List.exists_cons_of_ne_nil hf
  cases hb : q.fbBurst with
  | true => exact ⟨b, rest, [], framebufferData_of_burst hb _⟩
  | false => exact ⟨b, [], rest.map dataTransfer, framebufferData_of_single hb _⟩

theorem observeFrom_framebufferData_not_writable {p : Panel} (q : Params) (hp : p.parse = .outside)
    (hw : p.writable = false) {f : List Byte} (hf : f ≠ []) :
    observeFrom (.known p) (transactionsEvents targetAddr (framebufferData q f)) = .unknown := by
  obtain ⟨b, bytes, ts, heq⟩ := framebufferData_eq_cons q hf
  rw [heq, transactionsEvents_cons, observeFrom_append, observeFrom_dataTransaction hp,
    observeFrom_data_not_writable (p := { p with parse := .rest true }) rfl hw, Observer.event_unknown, observeFrom_unknown]

/-! The panel while a frame is drawn: the pointers are a cursor in raster order (R213, R214). -/

/-- The panel after the first bytes of a frame, drawn from the top left corner in a window of the whole panel: the display
is on, and the cell at every address below their number holds the byte of that index. -/
structure Panel.Drawn (f : List Byte) (p : Panel) : Prop where
  displayOn : p.displayOn = true
  mode : p.mode = .horizontal
  window : p.colStart = 0 ∧ p.colEnd = 127 ∧ p.pageStart = 0 ∧ p.pageEnd = 7
  col : p.col < panelColumns
  cursor : ramAddress p.page p.col = f.length % fbSize
  ram : ∀ a, a < f.length → readByte p.ram a = f[a]?

/-- The panel on which a frame is drawn: panel reset, with the display on and the mode horizontal (R165, R166). -/
def Panel.blank : Panel := { Panel.reset with displayOn := true, mode := .horizontal }

theorem Panel.drawn_blank : Panel.blank.Drawn [] where
  displayOn := rfl
  mode := rfl
  window := ⟨rfl, rfl, rfl, rfl⟩
  col := by decide
  cursor := rfl
  ram _ h := by cases h

/-- The next byte of a frame goes to the cell at the cursor, and the cursor to the next cell. -/
theorem Panel.Drawn.store {f : List Byte} {p : Panel} (h : p.Drawn f) (hf : f.length < fbSize) (d : Byte) :
    (p.store d).Drawn (f ++ [d]) := by
  obtain ⟨hon, hmode, ⟨hcs, hce, hps, hpe⟩, hcol, hcursor, hram⟩ := h
  rw [Nat.mod_eq_of_lt hf] at hcursor
  refine ⟨by simpa, by simpa, by simp [hcs, hce, hps, hpe], ?_, ?_, fun a ha => ?_⟩
  · rw [Panel.store_col]
    simp only [panelColumns] at *
    split_ifs <;> omega
  · rw [Panel.store_col, Panel.store_page, List.length_append, List.length_singleton]
    simp only [ramAddress, panelColumns, fbSize] at *
    split_ifs <;> omega
  · rw [Panel.store_ram, hcursor]
    obtain rfl | hne := eq_or_ne a f.length
    · simp
    · have hlt : a < f.length := by simp at ha; omega
      rw [readByte_writeByte_other _ _ hne, hram a hlt, List.getElem?_append_left hlt]

/-- A frame no longer than the panel is drawn byte by byte. -/
theorem Panel.drawn_foldl_store (f : List Byte) (hf : f.length ≤ fbSize) : (f.foldl Panel.store Panel.blank).Drawn f := by
  induction f using List.reverseRecOn with
  | nil => exact Panel.drawn_blank
  | append_singleton f d ih =>
    rw [List.length_append, List.length_singleton] at hf
    rw [List.foldl_append]
    exact (ih (by omega)).store (by omega) d

/-! The two tables (R165, R166), and the settled statements. -/

/-- Before the addressing mode, the reference bring-up sends only commands that leave panel reset as it is. -/
theorem observe_bringUp_beforeMode :
    observe (transactionsEvents targetAddr (commandTransfers (initTableRef.take 14))) = .known Panel.reset := by decide

/-- The rest of the reference bring-up sets the mode to horizontal and turns the display on. -/
theorem observe_bringUp :
    observe (transactionsEvents targetAddr (commandTransfers initTableRef)) = .known Panel.blank := by
  have htable : commandTransfers initTableRef =
      commandTransfers (initTableRef.take 14) ++ commandTransfers (initTableRef.drop 14) := rfl
  rw [htable, transactionsEvents_append, observe, observeFrom_append, ← observe, observe_bringUp_beforeMode]
  decide

/-- The address table asks for the window that a panel has from its reset. -/
theorem observeFrom_blank_addrTable :
    observeFrom (.known Panel.blank) (transactionsEvents targetAddr (commandTransfers addrTable)) = .known Panel.blank := by
  decide

/-- The address table alone leaves panel reset as it is: the window of the whole panel, the mode not set. -/
theorem observe_addrTable : observe (transactionsEvents targetAddr (commandTransfers addrTable)) = .known Panel.reset := by
  decide

/-- The observer after the bring-up and a framebuffer is the blank panel with the frame's bytes stored in turn. -/
theorem observe_bringUp_framebuffer {p : Params} (hp : p.initTable = initTableRef) (f : List Byte) :
    observe (transactionsEvents targetAddr (transfers p .initSequence ++ transfers p (.sendFramebuffer f))) =
      .known (f.foldl Panel.store Panel.blank) := by
  have htransfers : transfers p .initSequence = commandTransfers initTableRef := congrArg commandTransfers hp
  rw [htransfers, transfers_sendFramebuffer, transactionsEvents_append, transactionsEvents_append, observe,
    observeFrom_append, ← observe, observe_bringUp, observeFrom_append, observeFrom_blank_addrTable,
    observeFrom_framebufferData p rfl rfl]

/-- Settles O57: the bring-up and the address table leave a blank panel with the cursor at the top left corner, on which the
frame is drawn; 1024 bytes bring the cursor round to the corner. -/
theorem panelShowsTheFramebuffer : Obligations.PanelShowsTheFramebuffer := by
  intro p f hp hf panel
  have hpanel : panel = .known (f.foldl Panel.store Panel.blank) := observe_bringUp_framebuffer hp f
  obtain ⟨hon, hmode, -, hcol, hcursor, hram⟩ := Panel.drawn_foldl_store f hf.le
  rw [hf] at hcursor hram
  simp only [ramAddress, panelColumns, fbSize] at hcol hcursor
  rw [hpanel]
  refine ⟨rfl, congrArg some hon, congrArg some hmode, congrArg some ?_, congrArg some ?_, fun pg c hpg hc => ?_⟩
  · omega
  · omega
  · exact hram _ (by simp only [ramAddress, panelColumns]; omega)

/-- Settles O60: the address table does not set the addressing mode, so the window is not writable (R214). -/
theorem framebufferBeforeBringUpLeavesThePanelUnknown : Obligations.FramebufferBeforeBringUpLeavesThePanelUnknown := by
  intro p f hf
  have hne : f ≠ [] := List.ne_nil_of_length_pos (by omega)
  have hunknown : observe (transactionsEvents targetAddr (transfers p (.sendFramebuffer f))) = .unknown := by
    rw [transfers_sendFramebuffer, transactionsEvents_append, observe, observeFrom_append, ← observe, observe_addrTable,
      observeFrom_framebufferData_not_writable p rfl rfl hne]
  exact congrArg Observer.isKnown hunknown

end Sys2Proof.Machine
end
